-- ==== Sys2Proof/Word.lean ====
section
/-! DEFINITION. The two widths of the machine (spec/00_scope.md R6, R10): a byte is 8 bits, a word
(a register pair, SP, PC, an address) is 16 bits, both unsigned. Arithmetic on them wraps, which is
the `wrap8` and `wrap16` of R10: `+` and `-` of `BitVec`. -/

namespace Sys2Proof

/-- An 8-bit value: a general register, the flag byte, a memory cell, an instruction byte. -/
abbrev Byte := BitVec 8

/-- A 16-bit value: a register pair, SP, PC, an address. -/
abbrev Word := BitVec 16

end Sys2Proof
end

