-- ==== Sys2Proof/Machine/Bytes.lean ====
section
/-! DEFINITION. Byte order and extension helpers (spec/00_scope.md R9, R10, R12): the two halves of a
word, the word `hi:lo`, and the two extensions of a byte. -/

namespace Sys2Proof

/-- `v[15:8]` (R9). -/
def hiByte (v : Word) : Byte := v.extractLsb' 8 8

/-- `v[7:0]` (R9). -/
def loByte (v : Word) : Byte := v.extractLsb' 0 8

/-- `hi:lo`, `hi` in bits 15:8 and `lo` in bits 7:0 (R9). -/
def joinBytes (hi lo : Byte) : Word := hi ++ lo

/-- `zext_16(b) = b` (R10). -/
def zext16 (b : Byte) : Word := b.setWidth 16

/-- `sext_16(b)`: `b` when `b < 0x80`, `0xFF00 + b` otherwise (R10). -/
def sext16 (b : Byte) : Word := b.signExtend 16

end Sys2Proof
end

