-- ==== Sys2Proof/Config.lean ====
section
/-! DEFINITION. What an implementation fixes (spec/00_scope.md R6, R7).

Of the four open parameters of R7:
* `TOLERATED_UNDEFINED` is `Config.toleratesUndefined` below, with no body;
* `INITIAL_MEMORY` is the argument of `Machine.launch` (Machine/HostOps.lean): it is data the host
  loads, not a constant of the machine (log entry 3);
* `INC8_DEC8_WRITE_CARRY` and `ADDHL_WRITES_ZERO`, which the spec decides to be false (D8, D9), are
  the switches at the top of Machine/Flags.lean (log entries 4 and 5). -/

namespace Sys2Proof

/-- The memory holds exactly 65,536 bytes, addresses 0 to 65,535 (R6, R37). -/
def Config.memorySize : Nat := 65536

/-- The ten bytes that may be members of `TOLERATED_UNDEFINED` (R7, R215); 0xD3 is not one. -/
def Config.undefinedCandidates : List Byte :=
  [0xDB, 0xDD, 0xE3, 0xE4, 0xEB, 0xEC, 0xED, 0xF4, 0xFC, 0xFD]

/-- `TOLERATED_UNDEFINED` (R7, R215, D3): whether a candidate byte runs as a no-operation. The spec
leaves the set OPEN, so it has no body: nothing proved about the machine can depend on which bytes
are in it. It is asked only about candidate bytes, so the set in force is a subset of
`Config.undefinedCandidates` and never holds 0xD3, as R7 demands (log entry 2; safe). -/
opaque Config.toleratesUndefined : Byte → Bool

end Sys2Proof
end

