-- ==== Sys2Proof/Machine/State.lean ====
section
/-! DEFINITION. The state of the core (spec/10_state.md R20: "exactly this tuple. Nothing else is
state"), the reasons a step can stop, and the state after reset (R40). -/

namespace Sys2Proof.Machine

/-- The memory (R37): the bytes that are not 0x00, as (address, byte) pairs, addresses strictly rising
(the canonical form is `Memory.wf`, Machine/Ops.lean). An unlisted address reads as 0x00, the content
`new` gives every byte (R262; log entry 14). -/
abbrev Memory := List Host.Cell

/-- The record of an UnknownInstruction fault (R230): the offending byte and the address it was read
from. -/
structure FaultRecord where
  opcode : Byte
  addr   : Word
  deriving DecidableEq, Repr

/-- The state (R20). The pairs AF, BC, DE, HL and the four flags are views of these fields (R22, R27). -/
structure State where
  /-- accumulator (R21) -/
  a : Byte
  /-- flag byte: Z bit 7, N bit 6, H bit 5, C bit 4, bits 3:0 kept verbatim (R26) -/
  f : Byte
  b : Byte
  c : Byte
  d : Byte
  e : Byte
  h : Byte
  l : Byte
  /-- stack pointer: the address of the highest free byte (R31, R56) -/
  sp : Word
  /-- program counter: between steps, the first byte of the next instruction (R32) -/
  pc : Word
  /-- the 65,536 bytes (R37) -/
  mem : Memory
  /-- the fault latch (R38) -/
  fault : Option FaultRecord
  deriving DecidableEq, Repr

/-- Why the machine stops with a fault: nothing does, so the type has no constructor. The one exception
of this hardware, UnknownInstruction (R230, R231), is TAKEN: the step that raises it answers the next
state, in which the latch is set (log entry 1; safe). What stops is the step after it, and that is a
refusal (R232). -/
inductive Fault where
  deriving DecidableEq, Repr

/-- Why a step or a host operation is refused. -/
inductive Refusal where
  /-- An arm of `exec` without a meaning. No arm raises it: every instruction has its meaning. Safe. -/
  | notModelled (mnemonic : String)
  /-- Raised by `step` on a state whose fault latch is set: "a `tick` requested in that state does
  nothing and is refused" (R232, R269). It carries the latched record. Safe. -/
  | faultLatched (opcode : Byte) (addr : Word)
  /-- Raised by the host operation `set_mem` for an address above 0xFFFF (R264, U6). No step raises it.
  Safe. -/
  | hostAddress
  /-- Raised by the host range operations when not `i <= j <= 0xFFFF` (R264, U6). No step raises it.
  Safe. -/
  | hostRange
  /-- Raised by `set_mem_range` when the data's length is not `j - i + 1` (R264, U6). No step raises
  it. Safe. -/
  | hostDataLength
  deriving DecidableEq, Repr

/-- The three outcomes of an instruction, with the model's own types. -/
abbrev Result := Host.Outcome State Fault Refusal

/-- The state after reset: `new` then `init` (R260, R262, R263, R40). Nothing is loaded: every memory
byte is 0x00 and the latch is clear. -/
def State.reset : State where
  a := 0x01
  f := 0xB0
  b := 0x00
  c := 0x13
  d := 0x00
  e := 0xD8
  h := 0x01
  l := 0x4D
  sp := 0xFFFE
  pc := 0x0100
  mem := []
  fault := none

end Sys2Proof.Machine
end

