-- ==== Sys2Proof/Machine/Ops.lean ====
section
/-! DEFINITION. The operations over memory, the stack and the program counter, and the taking of the
one exception (spec/20_memory.md R50 to R61, spec/10_state.md R33, spec/60_exceptions.md R230, R238).
An address is a `Word`, so it is always inside the array (R50, R55) and its successor wraps (D11). -/

namespace Sys2Proof.Machine

/-! ## Memory as a canonical list -/

/-- The byte at an address; an unlisted address reads as 0x00 (R262). -/
def Memory.read : Memory → Nat → Byte
  | [], _ => 0x00#8
  | (k, w) :: rest, adr => if k = adr then w else Memory.read rest adr

/-- Stores one byte and keeps the canonical form: storing 0x00 removes the entry. -/
def Memory.write : Memory → Nat → Byte → Memory
  | [], adr, v => if v = 0x00#8 then [] else [(adr, v)]
  | (k, w) :: rest, adr, v =>
    if adr < k then (if v = 0x00#8 then (k, w) :: rest else (adr, v) :: (k, w) :: rest)
    else if adr = k then (if v = 0x00#8 then rest else (adr, v) :: rest)
    else (k, w) :: Memory.write rest adr v

/-- Canonical from address `lo` up: addresses strictly rising, at least `lo`, inside the array, no
entry equal to what an unlisted address reads as. -/
def Memory.wfFrom : Nat → Memory → Bool
  | _, [] => true
  | lo, (k, w) :: rest =>
    decide (lo ≤ k) && decide (k < Config.memorySize) && decide (w ≠ 0x00#8)
      && Memory.wfFrom (k + 1) rest

/-- The canonical form of a memory. -/
def Memory.wf (m : Memory) : Bool := Memory.wfFrom 0 m

/-! ## The access primitives (R50 to R53) -/

/-- `MemRead(addr, 1)` (R50). -/
def State.read8 (s : State) (adr : Word) : Byte := Memory.read s.mem adr.toNat

/-- `MemWrite(addr, 1, v)` (R51): never refused, no read-only region. -/
def State.write8 (s : State) (adr : Word) (v : Byte) : State :=
  { s with mem := Memory.write s.mem adr.toNat v }

/-- `MemRead(addr, 2)` (R52): low byte at the lower address, `addr + 1` wraps. -/
def State.read16 (s : State) (adr : Word) : Word :=
  joinBytes (s.read8 (adr + 1)) (s.read8 adr)

/-- `MemWrite(addr, 2, v)` (R53): low byte at the lower address, `addr + 1` wraps. -/
def State.write16 (s : State) (adr : Word) (v : Word) : State :=
  (s.write8 adr (loByte v)).write8 (adr + 1) (hiByte v)

/-! ## The range operations of the host (R54)

They take the first address and go up; the callers in Machine/HostOps.lean check the range. -/

/-- `n` bytes from address `i` up. -/
def Memory.readRange (m : Memory) (i : Nat) : Nat → List Byte
  | 0 => []
  | n + 1 => Memory.read m i :: Memory.readRange m (i + 1) n

/-- Stores the bytes at `i`, `i + 1`, and so on. -/
def Memory.writeRange (m : Memory) (i : Nat) : List Byte → Memory
  | [] => m
  | v :: rest => Memory.writeRange (Memory.write m i v) (i + 1) rest

/-! ## The stack (R56 to R60): SP names the highest free byte -/

/-- `push(data)` (R57): `data[0]` at SP, each next byte one address lower, SP ends below them. -/
def State.push (s : State) : List Byte → State
  | [] => s
  | v :: rest => State.push { s.write8 s.sp v with sp := s.sp - 1 } rest

/-- `push16(v)` (R58): the high byte first, so it lands at the higher address. -/
def State.push16 (s : State) (v : Word) : State := s.push [hiByte v, loByte v]

/-- The bytes `pop(n)` returns (R59): from SP + 1 in increasing address order. -/
def State.popBytes (s : State) : Nat → List Byte
  | 0 => []
  | n + 1 => s.read8 (s.sp + 1) :: State.popBytes { s with sp := s.sp + 1 } n

/-- `pop(n)` (R59): the bytes, and the state with SP past them. Memory is not changed. -/
def State.pop (s : State) (n : Nat) : List Byte × State :=
  (s.popBytes n, { s with sp := s.sp + BitVec.ofNat 16 n })

/-- `pop16()` (R60): `lo` from SP + 1, `hi` from SP + 2. -/
def State.pop16 (s : State) : Word × State :=
  (joinBytes (s.read8 (s.sp + 2)) (s.read8 (s.sp + 1)), { s with sp := s.sp + 2 })

/-! ## The program counter (R33) -/

/-- `PC <- next`: past an instruction of `len` bytes, wrapping (R13, R34). -/
def State.advance (s : State) (len : Word) : State := { s with pc := s.pc + len }

/-- `PC <- target` (R12). -/
def State.jump (s : State) (target : Word) : State := { s with pc := target }

/-! ## Taking the exception (R230, R238)

There is no vector, no saved pc, no mode and no return from it (R238, R239): entry sets the latch and
changes nothing else. -/

/-- `raise UnknownInstruction(opcode, addr)` (R230): registers, flags, SP, PC and memory keep their
values; the latch takes the record. -/
def State.raiseUnknownInstruction (s : State) (opcode : Byte) (adr : Word) : State :=
  { s with fault := some { opcode := opcode, addr := adr } }

end Sys2Proof.Machine
end

