-- ==== Sys2Proof/Syntax.lean ====
section
/-! DEFINITION. The instructions as terms: the operand vocabulary (spec/30_encoding.md R84, R85, R89;
spec/10_state.md R22) and `Instr`, one constructor for each mnemonic of spec/opcode_table.json.

Names: the mnemonic's words in order, the operation in lower case, `mX` for the memory operand `(X)`:
`ld_mHL_B` is LD (HL),B. An immediate operand is the constructor's argument, as the raw byte or word
of the instruction stream (R86, R87). The 32 rows named UNKNOWN and the 10 rows named UNDEFINED
are one constructor each, whose argument is the row's opcode byte (log entry 17). -/

namespace Sys2Proof

/-- The 8-bit operand registers (R84). F has no code and is not one. -/
inductive Reg8 where
  | B | C | D | E | H | L | A
  deriving DecidableEq, Repr

/-- The 16-bit operand registers (R85). -/
inductive Reg16 where
  | BC | DE | HL | SP
  deriving DecidableEq, Repr

/-- The four register pairs (R22): views of two 8-bit registers. AF is no operand. -/
inductive Pair where
  | AF | BC | DE | HL
  deriving DecidableEq, Repr

/-- The conditions of JP, JR, CALL and RET (R89, R195). -/
inductive Cond where
  | NZ | Z | NC | C
  deriving DecidableEq, Repr

/-- The seven implemented ALU operations of the field `ooo` (R83). -/
inductive AluOp where
  | add | adc | sub | and | xor | or | cp
  deriving DecidableEq, Repr

/-- The right operand of an ALU operation: a register, the byte at HL, or an immediate (R84, R179). -/
inductive AluSrc where
  | reg (r : Reg8)
  | atHL
  | imm (d8 : Byte)
  deriving DecidableEq, Repr

/-- The instructions of the primary opcode table (R88). -/
inductive Instr where
  -- spec/40_load_store.md
  -- R111
  | ld_B_B | ld_B_C | ld_B_D | ld_B_E | ld_B_H | ld_B_L | ld_B_A | ld_C_B | ld_C_C | ld_C_D
  | ld_C_E | ld_C_H | ld_C_L | ld_C_A | ld_D_B | ld_D_C | ld_D_D | ld_D_E | ld_D_H | ld_D_L
  | ld_D_A | ld_E_B | ld_E_C | ld_E_D | ld_E_E | ld_E_H | ld_E_L | ld_E_A | ld_H_B | ld_H_C
  | ld_H_D | ld_H_E | ld_H_H | ld_H_L | ld_H_A | ld_L_B | ld_L_C | ld_L_D | ld_L_E | ld_L_H
  | ld_L_L | ld_L_A | ld_A_B | ld_A_C | ld_A_D | ld_A_E | ld_A_H | ld_A_L | ld_A_A
  -- R112
  | ld_B_mHL | ld_C_mHL | ld_D_mHL | ld_E_mHL | ld_H_mHL | ld_L_mHL | ld_A_mHL
  -- R113
  | ld_mHL_B | ld_mHL_C | ld_mHL_D | ld_mHL_E | ld_mHL_H | ld_mHL_L | ld_mHL_A
  -- R114
  | ld_A_mBC
  -- R115
  | ld_A_mDE
  -- R116
  | ld_mBC_A
  -- R117
  | ld_mDE_A
  -- R118
  | ld_B_d8 (d8 : Byte) | ld_C_d8 (d8 : Byte) | ld_D_d8 (d8 : Byte) | ld_E_d8 (d8 : Byte)
  | ld_H_d8 (d8 : Byte) | ld_L_d8 (d8 : Byte) | ld_A_d8 (d8 : Byte)
  -- R119
  | ld_mHL_d8 (d8 : Byte)
  -- R120
  | ld_BC_d16 (d16 : Word) | ld_DE_d16 (d16 : Word) | ld_HL_d16 (d16 : Word)
  | ld_SP_d16 (d16 : Word)
  -- R121
  | ld_ma16_A (a16 : Word)
  -- R122
  | ld_A_ma16 (a16 : Word)
  -- R123
  | ldh_ma8_A (a8 : Byte)
  -- R124
  | ldh_A_ma8 (a8 : Byte)
  -- R125
  | ld_mC_A
  -- R126
  | ld_A_mC
  -- R127
  | ldi_mHL_A
  -- R128
  | ldi_A_mHL
  -- R129
  | ldd_mHL_A
  -- R130
  | ldd_A_mHL
  -- R131
  | ld_ma16_SP (a16 : Word)
  -- spec/41_arithmetic.md
  -- R153
  | add_A_B | add_A_C | add_A_D | add_A_E | add_A_H | add_A_L | add_A_A
  -- R154
  | add_A_mHL
  -- R155
  | add_A_d8 (d8 : Byte)
  -- R156
  | adc_A_B | adc_A_C | adc_A_D | adc_A_E | adc_A_H | adc_A_L | adc_A_A
  -- R157
  | adc_A_mHL
  -- R158
  | adc_A_d8 (d8 : Byte)
  -- R159
  | sub_B | sub_C | sub_D | sub_E | sub_H | sub_L | sub_A
  -- R160
  | sub_mHL
  -- R161
  | sub_d8 (d8 : Byte)
  -- R162
  | inc_B | inc_C | inc_D | inc_E | inc_H | inc_L | inc_A
  -- R163
  | inc_mHL
  -- R164
  | dec_B | dec_C | dec_D | dec_E | dec_H | dec_L | dec_A
  -- R165
  | dec_mHL
  -- R166
  | inc_BC | inc_DE | inc_HL | inc_SP
  -- R167
  | dec_BC | dec_DE | dec_HL | dec_SP
  -- R168
  | add_HL_BC | add_HL_DE | add_HL_HL | add_HL_SP
  -- R170
  | add_SP_e8 (e8 : Byte)
  -- R171
  | ldhl_SP_e8 (e8 : Byte)
  -- spec/42_logic.md
  -- R180
  | and_B | and_C | and_D | and_E | and_H | and_L | and_A
  -- R181
  | and_mHL
  -- R182
  | and_d8 (d8 : Byte)
  -- R183
  | xor_B | xor_C | xor_D | xor_E | xor_H | xor_L | xor_A
  -- R184
  | xor_mHL
  -- R185
  | xor_d8 (d8 : Byte)
  -- R186
  | or_B | or_C | or_D | or_E | or_H | or_L | or_A
  -- R187
  | or_mHL
  -- R188
  | or_d8 (d8 : Byte)
  -- R189
  | cp_B | cp_C | cp_D | cp_E | cp_H | cp_L | cp_A
  -- R190
  | cp_mHL
  -- R191
  | cp_d8 (d8 : Byte)
  -- spec/43_control_flow.md
  -- R196
  | jp_a16 (a16 : Word)
  -- R197
  | jp_NZ_a16 (a16 : Word) | jp_Z_a16 (a16 : Word) | jp_NC_a16 (a16 : Word)
  | jp_C_a16 (a16 : Word)
  -- R198
  | jr_e8 (e8 : Byte)
  -- R199
  | jr_NZ_e8 (e8 : Byte) | jr_Z_e8 (e8 : Byte) | jr_NC_e8 (e8 : Byte) | jr_C_e8 (e8 : Byte)
  -- R200
  | call_a16 (a16 : Word)
  -- R201
  | call_NZ_a16 (a16 : Word) | call_Z_a16 (a16 : Word) | call_NC_a16 (a16 : Word)
  | call_C_a16 (a16 : Word)
  -- R202
  | ret
  -- R203
  | ret_NZ | ret_Z | ret_NC | ret_C
  -- R204
  | rst_0x00 | rst_0x08 | rst_0x10 | rst_0x18 | rst_0x20 | rst_0x28 | rst_0x30 | rst_0x38
  -- spec/44_rotate.md
  -- R210
  | rlca
  -- R211
  | rrca
  -- spec/45_undefined_and_prefixed.md
  /-- R215: a candidate of `TOLERATED_UNDEFINED`. -/
  | undefined (op : Byte)
  /-- R216: a primary byte with no instruction. -/
  | unknown (op : Byte)
  /-- R217: the 0xCB prefix and the byte after it. -/
  | prefixCB (b1 : Byte)
  deriving DecidableEq, Repr

end Sys2Proof
end

