-- ==== Sys2Proof/Machine/Operands.lean ====
section
/-! DEFINITION. Reading and writing operands: the registers by name (spec/00_scope.md R11), the pair
views (spec/10_state.md R22), the ALU operand (spec/30_encoding.md R84, R86) and the high-page
address (R86). The conditions, which read flags, are in Machine/Flags.lean. -/

namespace Sys2Proof.Machine

/-! ## 8-bit registers: `x[i]` and `x[i] <- v` -/

/-- `x[r]` (R11). -/
def State.reg (s : State) : Reg8 → Byte
  | .B => s.b
  | .C => s.c
  | .D => s.d
  | .E => s.e
  | .H => s.h
  | .L => s.l
  | .A => s.a

/-- `x[r] <- v` (R11). -/
def State.setReg (s : State) (r : Reg8) (v : Byte) : State :=
  match r with
  | .B => { s with b := v }
  | .C => { s with c := v }
  | .D => { s with d := v }
  | .E => { s with e := v }
  | .H => { s with h := v }
  | .L => { s with l := v }
  | .A => { s with a := v }

/-! ## Register pairs: `get_xx` and `set_xx` (R22) -/

/-- Reading a pair: the first-named register is the high byte. -/
def State.pair (s : State) : Pair → Word
  | .AF => joinBytes s.a s.f
  | .BC => joinBytes s.b s.c
  | .DE => joinBytes s.d s.e
  | .HL => joinBytes s.h s.l

/-- Writing a pair: `n[15:8]` to the high register, `n[7:0]` to the low one, nothing masked (writing
AF writes all eight bits of F). -/
def State.setPair (s : State) (p : Pair) (n : Word) : State :=
  match p with
  | .AF => { s with a := hiByte n, f := loByte n }
  | .BC => { s with b := hiByte n, c := loByte n }
  | .DE => { s with d := hiByte n, e := loByte n }
  | .HL => { s with h := hiByte n, l := loByte n }

/-! ## 16-bit operand registers: `xx[p]` and `xx[p] <- v` (R85) -/

/-- `xx[p]` (R11, R85). -/
def State.reg16 (s : State) : Reg16 → Word
  | .BC => s.pair .BC
  | .DE => s.pair .DE
  | .HL => s.pair .HL
  | .SP => s.sp

/-- `xx[p] <- v` (R11, R85). -/
def State.setReg16 (s : State) (p : Reg16) (v : Word) : State :=
  match p with
  | .BC => s.setPair .BC v
  | .DE => s.setPair .DE v
  | .HL => s.setPair .HL v
  | .SP => { s with sp := v }

/-! ## The right operand of an ALU operation -/

/-- The operand's byte: a register, `MemRead(HL, 1)`, or `d8` (R179). -/
def State.aluOperand (s : State) : AluSrc → Byte
  | .reg r => s.reg r
  | .atHL => s.read8 (s.pair .HL)
  | .imm d8 => d8

/-- The length of the ALU instruction with that operand: 2 with an immediate, else 1 (R81). -/
def aluLength : AluSrc → Word
  | .reg _ => 1
  | .atHL => 1
  | .imm _ => 2

/-! ## The high page -/

/-- `0xFF00 + off`, always within 0xFF00 to 0xFFFF (R86). -/
def highPage (off : Byte) : Word := 0xFF00 + zext16 off

end Sys2Proof.Machine
end

