-- ==== Sys2Proof/Machine/Flags.lean ====
section
/-! DEFINITION. The flag unit: the four bits of F (spec/10_state.md R26, R27), the `flags(z, n, h, c)`
write (spec/00_scope.md R11), the flag computations of the arithmetic (spec/41_arithmetic.md R150 to
R152, R168, R169) and the conditions (spec/43_control_flow.md R195). Every flag is computed on
unbounded naturals from the operands as they were before the instruction (R150). -/

namespace Sys2Proof.Machine

/-! ## The two switches the spec decides (R7) -/

/-- `INC8_DEC8_WRITE_CARRY`: whether the 8-bit INC and DEC write C. The spec decides false (D8; log
entry 4; unsafe). -/
def inc8Dec8WriteCarry : Bool := false

/-- `ADDHL_WRITES_ZERO`: whether ADD HL,rr writes Z. The spec decides false (D9; log entry 5;
unsafe). -/
def addHlWritesZero : Bool := false

/-! ## The flag byte (R26, R27) -/

/-- The four flags: Zero, Subtract, Half-Carry, Carry. -/
inductive Flag where
  | Z | N | H | C
  deriving DecidableEq, Repr

/-- The flag's bit of F (R26). -/
def flagBit : Flag → Nat
  | .Z => 7
  | .N => 6
  | .H => 5
  | .C => 4

/-- `flag(X)` on a flag byte (R27). -/
def flagOf (f : Byte) (x : Flag) : Bool := f.getLsbD (flagBit x)

/-- `set_flag_to(X, b)` on a flag byte: the one bit, the other seven as they were (R27). -/
def withFlag (f : Byte) (x : Flag) (v : Bool) : Byte :=
  if v then f ||| (1#8 <<< flagBit x) else f &&& ~~~(1#8 <<< flagBit x)

/-- `F.X` (R11). -/
def State.flag (s : State) (x : Flag) : Bool := flagOf s.f x

/-- `F.X <- b` (R11, R27). -/
def State.setFlagTo (s : State) (x : Flag) (v : Bool) : State := { s with f := withFlag s.f x v }

/-- `set_flag(X)` (R27). -/
def State.setFlag (s : State) (x : Flag) : State := s.setFlagTo x true

/-- `reset_flag(X)` (R27). -/
def State.resetFlag (s : State) (x : Flag) : State := s.setFlagTo x false

/-- One argument of `flags(…)`: a dash (`none`) writes nothing (R11). -/
def withFlag? (f : Byte) (x : Flag) : Option Bool → Byte
  | none => f
  | some v => withFlag f x v

/-- `flags(z, n, h, c)`: the four writes in that order, a dash written `none` (R11). -/
def State.flags (s : State) (z n h c : Option Bool) : State :=
  { s with f := withFlag? (withFlag? (withFlag? (withFlag? s.f .Z z) .N n) .H h) .C c }

/-! ## The flag computations -/

/-- An 8-bit result and its flags. -/
structure Alu8 where
  result : Byte
  z : Bool
  h : Bool
  c : Bool
  deriving DecidableEq, Repr

/-- `add8(a, b, cin)` (R151): half-carry out of bit 3, carry out of bit 7, the carry-in in both. -/
def add8 (x y : Byte) (cin : Bool) : Alu8 where
  result := BitVec.ofNat 8 (x.toNat + y.toNat + cin.toNat)
  z := decide ((x.toNat + y.toNat + cin.toNat) % 256 = 0)
  h := decide (x.toNat % 16 + y.toNat % 16 + cin.toNat > 0x0F)
  c := decide (x.toNat + y.toNat + cin.toNat > 0xFF)

/-- `sub8(a, b)` (R152): half-borrow into bit 3, borrow into bit 7. -/
def sub8 (x y : Byte) : Alu8 where
  result := x - y
  z := decide (x - y = 0)
  h := decide (x.toNat % 16 < y.toNat % 16)
  c := decide (x.toNat < y.toNat)

/-- A 16-bit result and its flags. -/
structure Alu16 where
  result : Word
  z : Bool
  h : Bool
  c : Bool
  deriving DecidableEq, Repr

/-- The 16-bit addition of R168 and R169: half-carry out of bit 11, carry out of bit 15. -/
def add16 (x y : Word) : Alu16 where
  result := BitVec.ofNat 16 (x.toNat + y.toNat)
  z := decide ((x.toNat + y.toNat) % 65536 = 0)
  h := decide (x.toNat % 4096 + y.toNat % 4096 > 0x0FFF)
  c := decide (x.toNat + y.toNat > 0xFFFF)

/-- `addsp(sp, e8)` (R169): the byte sign-extended to 16 bits before the unsigned add; Z and N are
cleared by the two instructions that use it. -/
def addSp (sp : Word) (e8 : Byte) : Alu16 := add16 sp (sext16 e8)

/-- The flags of AND, XOR and OR: Z from the new A, N and C cleared, H as given (R179). -/
def State.logicFlags (s : State) (result : Byte) (h : Bool) : State :=
  s.flags (some (decide (result = 0))) (some false) (some h) (some false)

/-! ## The conditions -/

/-- `cond(cc)` (R89, R195), on the flags as they stand. -/
def State.cond (s : State) : Cond → Bool
  | .NZ => !s.flag .Z
  | .Z => s.flag .Z
  | .NC => !s.flag .C
  | .C => s.flag .C

end Sys2Proof.Machine
end

