-- ==== Sys2Proof/Machine/Arithmetic.lean ====
section
/-! DEFINITION. Arithmetic instructions (spec/41_arithmetic.md R150 to R171). Results wrap, no instruction
raises an exception, every flag is a function of the operands before the instruction (R150). -/

namespace Sys2Proof.Machine

/-! ## The shared forms -/

/-- ADD (R153 to R155): `A <- A + operand`, all four flags written. -/
def addA (src : AluSrc) (s : State) : Result :=
  let r := add8 s.a (s.aluOperand src) false
  .next (((s.setReg .A r.result).flags (some r.z) (some false) (some r.h) (some r.c)).advance
    (aluLength src))

/-- ADC (R156 to R158): the carry flag, read before it is written, is the carry-in (D10). -/
def adcA (src : AluSrc) (s : State) : Result :=
  let r := add8 s.a (s.aluOperand src) (s.flag .C)
  .next (((s.setReg .A r.result).flags (some r.z) (some false) (some r.h) (some r.c)).advance
    (aluLength src))

/-- SUB (R159 to R161). -/
def subA (src : AluSrc) (s : State) : Result :=
  let r := sub8 s.a (s.aluOperand src)
  .next (((s.setReg .A r.result).flags (some r.z) (some true) (some r.h) (some r.c)).advance
    (aluLength src))

/-- The flag argument a switch governs: written when the switch is on, else a dash. -/
def writtenIf (switch v : Bool) : Option Bool := if switch then some v else none

/-- INC r (R162); C is written only with the switch `INC8_DEC8_WRITE_CARRY`. -/
def incReg8 (writeCarry : Bool) (dst : Reg8) (s : State) : Result :=
  let r := add8 (s.reg dst) 1 false
  .next (((s.setReg dst r.result).flags (some r.z) (some false) (some r.h)
    (writtenIf writeCarry r.c)).advance 1)

/-- DEC r (R164). -/
def decReg8 (writeCarry : Bool) (dst : Reg8) (s : State) : Result :=
  let r := sub8 (s.reg dst) 1
  .next (((s.setReg dst r.result).flags (some r.z) (some true) (some r.h)
    (writtenIf writeCarry r.c)).advance 1)

/-- INC (HL) (R163): one read, then one write of the same address. -/
def incAtHl (writeCarry : Bool) (s : State) : Result :=
  let r := add8 (s.read8 (s.pair .HL)) 1 false
  .next (((s.write8 (s.pair .HL) r.result).flags (some r.z) (some false) (some r.h)
    (writtenIf writeCarry r.c)).advance 1)

/-- DEC (HL) (R165). -/
def decAtHl (writeCarry : Bool) (s : State) : Result :=
  let r := sub8 (s.read8 (s.pair .HL)) 1
  .next (((s.write8 (s.pair .HL) r.result).flags (some r.z) (some true) (some r.h)
    (writtenIf writeCarry r.c)).advance 1)

/-- INC rr (R166): no flag. -/
def incReg16 (dst : Reg16) (s : State) : Result :=
  .next ((s.setReg16 dst (s.reg16 dst + 1)).advance 1)

/-- DEC rr (R167): no flag. -/
def decReg16 (dst : Reg16) (s : State) : Result :=
  .next ((s.setReg16 dst (s.reg16 dst - 1)).advance 1)

/-- ADD HL,rr (R168); Z is written only with the switch `ADDHL_WRITES_ZERO`. -/
def addToHl (writeZero : Bool) (src : Reg16) (s : State) : Result :=
  let r := add16 (s.pair .HL) (s.reg16 src)
  .next (((s.setPair .HL r.result).flags (writtenIf writeZero r.z) (some false) (some r.h)
    (some r.c)).advance 1)

/-! ## The instructions -/

/-- ADD A,B (R153). -/
def execAdd_A_B (s : State) : Result := addA (.reg .B) s

/-- ADD A,C (R153). -/
def execAdd_A_C (s : State) : Result := addA (.reg .C) s

/-- ADD A,D (R153). -/
def execAdd_A_D (s : State) : Result := addA (.reg .D) s

/-- ADD A,E (R153). -/
def execAdd_A_E (s : State) : Result := addA (.reg .E) s

/-- ADD A,H (R153). -/
def execAdd_A_H (s : State) : Result := addA (.reg .H) s

/-- ADD A,L (R153). -/
def execAdd_A_L (s : State) : Result := addA (.reg .L) s

/-- ADD A,A (R153). -/
def execAdd_A_A (s : State) : Result := addA (.reg .A) s

/-- ADD A,(HL) (R154). -/
def execAdd_A_mHL (s : State) : Result := addA .atHL s

/-- ADD A,d8 (R155). -/
def execAdd_A_d8 (d8 : Byte) (s : State) : Result := addA (.imm d8) s

/-- ADC A,B (R156). -/
def execAdc_A_B (s : State) : Result := adcA (.reg .B) s

/-- ADC A,C (R156). -/
def execAdc_A_C (s : State) : Result := adcA (.reg .C) s

/-- ADC A,D (R156). -/
def execAdc_A_D (s : State) : Result := adcA (.reg .D) s

/-- ADC A,E (R156). -/
def execAdc_A_E (s : State) : Result := adcA (.reg .E) s

/-- ADC A,H (R156). -/
def execAdc_A_H (s : State) : Result := adcA (.reg .H) s

/-- ADC A,L (R156). -/
def execAdc_A_L (s : State) : Result := adcA (.reg .L) s

/-- ADC A,A (R156). -/
def execAdc_A_A (s : State) : Result := adcA (.reg .A) s

/-- ADC A,(HL) (R157). -/
def execAdc_A_mHL (s : State) : Result := adcA .atHL s

/-- ADC A,d8 (R158). -/
def execAdc_A_d8 (d8 : Byte) (s : State) : Result := adcA (.imm d8) s

/-- SUB B (R159). -/
def execSub_B (s : State) : Result := subA (.reg .B) s

/-- SUB C (R159). -/
def execSub_C (s : State) : Result := subA (.reg .C) s

/-- SUB D (R159). -/
def execSub_D (s : State) : Result := subA (.reg .D) s

/-- SUB E (R159). -/
def execSub_E (s : State) : Result := subA (.reg .E) s

/-- SUB H (R159). -/
def execSub_H (s : State) : Result := subA (.reg .H) s

/-- SUB L (R159). -/
def execSub_L (s : State) : Result := subA (.reg .L) s

/-- SUB A (R159). -/
def execSub_A (s : State) : Result := subA (.reg .A) s

/-- SUB (HL) (R160). -/
def execSub_mHL (s : State) : Result := subA .atHL s

/-- SUB d8 (R161). -/
def execSub_d8 (d8 : Byte) (s : State) : Result := subA (.imm d8) s

/-- INC B (R162). -/
def execInc_B (s : State) : Result := incReg8 inc8Dec8WriteCarry .B s

/-- INC C (R162). -/
def execInc_C (s : State) : Result := incReg8 inc8Dec8WriteCarry .C s

/-- INC D (R162). -/
def execInc_D (s : State) : Result := incReg8 inc8Dec8WriteCarry .D s

/-- INC E (R162). -/
def execInc_E (s : State) : Result := incReg8 inc8Dec8WriteCarry .E s

/-- INC H (R162). -/
def execInc_H (s : State) : Result := incReg8 inc8Dec8WriteCarry .H s

/-- INC L (R162). -/
def execInc_L (s : State) : Result := incReg8 inc8Dec8WriteCarry .L s

/-- INC A (R162). -/
def execInc_A (s : State) : Result := incReg8 inc8Dec8WriteCarry .A s

/-- INC (HL) (R163). -/
def execInc_mHL (s : State) : Result := incAtHl inc8Dec8WriteCarry s

/-- DEC B (R164). -/
def execDec_B (s : State) : Result := decReg8 inc8Dec8WriteCarry .B s

/-- DEC C (R164). -/
def execDec_C (s : State) : Result := decReg8 inc8Dec8WriteCarry .C s

/-- DEC D (R164). -/
def execDec_D (s : State) : Result := decReg8 inc8Dec8WriteCarry .D s

/-- DEC E (R164). -/
def execDec_E (s : State) : Result := decReg8 inc8Dec8WriteCarry .E s

/-- DEC H (R164). -/
def execDec_H (s : State) : Result := decReg8 inc8Dec8WriteCarry .H s

/-- DEC L (R164). -/
def execDec_L (s : State) : Result := decReg8 inc8Dec8WriteCarry .L s

/-- DEC A (R164). -/
def execDec_A (s : State) : Result := decReg8 inc8Dec8WriteCarry .A s

/-- DEC (HL) (R165). -/
def execDec_mHL (s : State) : Result := decAtHl inc8Dec8WriteCarry s

/-- INC BC (R166). -/
def execInc_BC (s : State) : Result := incReg16 .BC s

/-- INC DE (R166). -/
def execInc_DE (s : State) : Result := incReg16 .DE s

/-- INC HL (R166). -/
def execInc_HL (s : State) : Result := incReg16 .HL s

/-- INC SP (R166). -/
def execInc_SP (s : State) : Result := incReg16 .SP s

/-- DEC BC (R167). -/
def execDec_BC (s : State) : Result := decReg16 .BC s

/-- DEC DE (R167). -/
def execDec_DE (s : State) : Result := decReg16 .DE s

/-- DEC HL (R167). -/
def execDec_HL (s : State) : Result := decReg16 .HL s

/-- DEC SP (R167). -/
def execDec_SP (s : State) : Result := decReg16 .SP s

/-- ADD HL,BC (R168). -/
def execAdd_HL_BC (s : State) : Result := addToHl addHlWritesZero .BC s

/-- ADD HL,DE (R168). -/
def execAdd_HL_DE (s : State) : Result := addToHl addHlWritesZero .DE s

/-- ADD HL,HL (R168). -/
def execAdd_HL_HL (s : State) : Result := addToHl addHlWritesZero .HL s

/-- ADD HL,SP (R168). -/
def execAdd_HL_SP (s : State) : Result := addToHl addHlWritesZero .SP s

/-- ADD SP,e8 (R170): Z and N cleared, H and C of the 16-bit addition (R169, C3). -/
def execAdd_SP_e8 (e8 : Byte) (s : State) : Result :=
  let r := addSp s.sp e8
  .next ((({ s with sp := r.result }).flags (some false) (some false) (some r.h)
    (some r.c)).advance 2)

/-- LDHL SP,e8 (R171): as ADD SP,e8, but the result goes to HL and SP keeps its value. -/
def execLdhl_SP_e8 (e8 : Byte) (s : State) : Result :=
  let r := addSp s.sp e8
  .next (((s.setPair .HL r.result).flags (some false) (some false) (some r.h)
    (some r.c)).advance 2)

end Sys2Proof.Machine
end

