-- ==== Sys2Proof/Machine/ControlFlow.lean ====
section
/-! DEFINITION. Control-flow instructions (spec/43_control_flow.md R194 to R204). None writes a flag, none
raises an exception; a conditional form that is not taken only advances PC by its length (R194). -/

namespace Sys2Proof.Machine

/-! ## The shared forms -/

/-- The target of JR: `next + signed8(e8)`, `next` two bytes on (R198). -/
def jrTarget (s : State) (e8 : Byte) : Word := s.pc + 2 + sext16 e8

/-- CALL and RST taken: push `next`, the address `len` bytes on, and go to the target (R200, R204). -/
def State.callTo (s : State) (target : Word) (len : Word) : State :=
  (s.push16 (s.pc + len)).jump target

/-- RET taken: `PC <- pop16()` (R202). -/
def State.returnFrom (s : State) : State := s.pop16.2.jump s.pop16.1

/-- JP cc,a16 (R197). -/
def jpIf (cc : Cond) (a16 : Word) (s : State) : Result :=
  .next (if s.cond cc then s.jump a16 else s.advance 3)

/-- JR cc,e8 (R199). -/
def jrIf (cc : Cond) (e8 : Byte) (s : State) : Result :=
  .next (if s.cond cc then s.jump (jrTarget s e8) else s.advance 2)

/-- CALL cc,a16 (R201): not taken, nothing is pushed. -/
def callIf (cc : Cond) (a16 : Word) (s : State) : Result :=
  .next (if s.cond cc then s.callTo a16 3 else s.advance 3)

/-- RET cc (R203). -/
def retIf (cc : Cond) (s : State) : Result :=
  .next (if s.cond cc then s.returnFrom else s.advance 1)

/-- RST (R204): a one-byte call of a page-zero address. -/
def rstTo (target : Word) (s : State) : Result := .next (s.callTo target 1)

/-! ## The instructions -/

/-- JP a16 (R196). -/
def execJp_a16 (a16 : Word) (s : State) : Result := .next (s.jump a16)

/-- JP NZ,a16 (R197). -/
def execJp_NZ_a16 (a16 : Word) (s : State) : Result := jpIf .NZ a16 s

/-- JP Z,a16 (R197). -/
def execJp_Z_a16 (a16 : Word) (s : State) : Result := jpIf .Z a16 s

/-- JP NC,a16 (R197). -/
def execJp_NC_a16 (a16 : Word) (s : State) : Result := jpIf .NC a16 s

/-- JP C,a16 (R197). -/
def execJp_C_a16 (a16 : Word) (s : State) : Result := jpIf .C a16 s

/-- JR e8 (R198). -/
def execJr_e8 (e8 : Byte) (s : State) : Result := .next (s.jump (jrTarget s e8))

/-- JR NZ,e8 (R199). -/
def execJr_NZ_e8 (e8 : Byte) (s : State) : Result := jrIf .NZ e8 s

/-- JR Z,e8 (R199). -/
def execJr_Z_e8 (e8 : Byte) (s : State) : Result := jrIf .Z e8 s

/-- JR NC,e8 (R199). -/
def execJr_NC_e8 (e8 : Byte) (s : State) : Result := jrIf .NC e8 s

/-- JR C,e8 (R199). -/
def execJr_C_e8 (e8 : Byte) (s : State) : Result := jrIf .C e8 s

/-- CALL a16 (R200). -/
def execCall_a16 (a16 : Word) (s : State) : Result := .next (s.callTo a16 3)

/-- CALL NZ,a16 (R201). -/
def execCall_NZ_a16 (a16 : Word) (s : State) : Result := callIf .NZ a16 s

/-- CALL Z,a16 (R201). -/
def execCall_Z_a16 (a16 : Word) (s : State) : Result := callIf .Z a16 s

/-- CALL NC,a16 (R201). -/
def execCall_NC_a16 (a16 : Word) (s : State) : Result := callIf .NC a16 s

/-- CALL C,a16 (R201). -/
def execCall_C_a16 (a16 : Word) (s : State) : Result := callIf .C a16 s

/-- RET (R202). -/
def execRet (s : State) : Result := .next s.returnFrom

/-- RET NZ (R203). -/
def execRet_NZ (s : State) : Result := retIf .NZ s

/-- RET Z (R203). -/
def execRet_Z (s : State) : Result := retIf .Z s

/-- RET NC (R203). -/
def execRet_NC (s : State) : Result := retIf .NC s

/-- RET C (R203). -/
def execRet_C (s : State) : Result := retIf .C s

/-- RST 0x00 (R204). -/
def execRst_0x00 (s : State) : Result := rstTo 0x0000 s

/-- RST 0x08 (R204). -/
def execRst_0x08 (s : State) : Result := rstTo 0x0008 s

/-- RST 0x10 (R204). -/
def execRst_0x10 (s : State) : Result := rstTo 0x0010 s

/-- RST 0x18 (R204). -/
def execRst_0x18 (s : State) : Result := rstTo 0x0018 s

/-- RST 0x20 (R204). -/
def execRst_0x20 (s : State) : Result := rstTo 0x0020 s

/-- RST 0x28 (R204). -/
def execRst_0x28 (s : State) : Result := rstTo 0x0028 s

/-- RST 0x30 (R204). -/
def execRst_0x30 (s : State) : Result := rstTo 0x0030 s

/-- RST 0x38 (R204). -/
def execRst_0x38 (s : State) : Result := rstTo 0x0038 s

end Sys2Proof.Machine
end

