-- ==== Sys2Proof/Machine/LoadStore.lean ====
section
/-! DEFINITION. Load and store instructions (spec/40_load_store.md R110 to R131). None writes a flag, none
raises an exception; an address is a `Word`, so HL ± 1 and a16 + 1 wrap (R110). -/

namespace Sys2Proof.Machine

/-! ## The shared forms -/

/-- `x[ddd] <- x[sss]` (R111). -/
def loadRegReg (dst src : Reg8) (s : State) : Result :=
  .next ((s.setReg dst (s.reg src)).advance 1)

/-- `x[ddd] <- MemRead(addr, 1)`, the address formed before the write (R112, R114, R115, R122, R124,
R126). -/
def loadRegFrom (dst : Reg8) (adr : Word) (len : Word) (s : State) : Result :=
  .next ((s.setReg dst (s.read8 adr)).advance len)

/-- `MemWrite(addr, 1, v)` (R113, R116, R117, R119, R121, R123, R125). -/
def storeByteAt (adr : Word) (v : Byte) (len : Word) (s : State) : Result :=
  .next ((s.write8 adr v).advance len)

/-- `x[rrr] <- d8` (R118). -/
def loadRegImm (dst : Reg8) (d8 : Byte) (s : State) : Result :=
  .next ((s.setReg dst d8).advance 2)

/-- `xx[pp] <- d16` (R120). -/
def loadReg16Imm (dst : Reg16) (d16 : Word) (s : State) : Result :=
  .next ((s.setReg16 dst d16).advance 3)

/-- `MemWrite(HL, 1, A)`, then HL takes its new value (R127, R129). -/
def storeAThenSetHl (newHl : Word) (s : State) : Result :=
  .next (((s.write8 (s.pair .HL) s.a).setPair .HL newHl).advance 1)

/-- `A <- MemRead(HL, 1)`, then HL takes its new value (R128, R130). -/
def loadAThenSetHl (newHl : Word) (s : State) : Result :=
  .next (((s.setReg .A (s.read8 (s.pair .HL))).setPair .HL newHl).advance 1)

/-! ## The instructions -/

/-- LD B,B (R111). -/
def execLd_B_B (s : State) : Result := loadRegReg .B .B s

/-- LD B,C (R111). -/
def execLd_B_C (s : State) : Result := loadRegReg .B .C s

/-- LD B,D (R111). -/
def execLd_B_D (s : State) : Result := loadRegReg .B .D s

/-- LD B,E (R111). -/
def execLd_B_E (s : State) : Result := loadRegReg .B .E s

/-- LD B,H (R111). -/
def execLd_B_H (s : State) : Result := loadRegReg .B .H s

/-- LD B,L (R111). -/
def execLd_B_L (s : State) : Result := loadRegReg .B .L s

/-- LD B,A (R111). -/
def execLd_B_A (s : State) : Result := loadRegReg .B .A s

/-- LD C,B (R111). -/
def execLd_C_B (s : State) : Result := loadRegReg .C .B s

/-- LD C,C (R111). -/
def execLd_C_C (s : State) : Result := loadRegReg .C .C s

/-- LD C,D (R111). -/
def execLd_C_D (s : State) : Result := loadRegReg .C .D s

/-- LD C,E (R111). -/
def execLd_C_E (s : State) : Result := loadRegReg .C .E s

/-- LD C,H (R111). -/
def execLd_C_H (s : State) : Result := loadRegReg .C .H s

/-- LD C,L (R111). -/
def execLd_C_L (s : State) : Result := loadRegReg .C .L s

/-- LD C,A (R111). -/
def execLd_C_A (s : State) : Result := loadRegReg .C .A s

/-- LD D,B (R111). -/
def execLd_D_B (s : State) : Result := loadRegReg .D .B s

/-- LD D,C (R111). -/
def execLd_D_C (s : State) : Result := loadRegReg .D .C s

/-- LD D,D (R111). -/
def execLd_D_D (s : State) : Result := loadRegReg .D .D s

/-- LD D,E (R111). -/
def execLd_D_E (s : State) : Result := loadRegReg .D .E s

/-- LD D,H (R111). -/
def execLd_D_H (s : State) : Result := loadRegReg .D .H s

/-- LD D,L (R111). -/
def execLd_D_L (s : State) : Result := loadRegReg .D .L s

/-- LD D,A (R111). -/
def execLd_D_A (s : State) : Result := loadRegReg .D .A s

/-- LD E,B (R111). -/
def execLd_E_B (s : State) : Result := loadRegReg .E .B s

/-- LD E,C (R111). -/
def execLd_E_C (s : State) : Result := loadRegReg .E .C s

/-- LD E,D (R111). -/
def execLd_E_D (s : State) : Result := loadRegReg .E .D s

/-- LD E,E (R111). -/
def execLd_E_E (s : State) : Result := loadRegReg .E .E s

/-- LD E,H (R111). -/
def execLd_E_H (s : State) : Result := loadRegReg .E .H s

/-- LD E,L (R111). -/
def execLd_E_L (s : State) : Result := loadRegReg .E .L s

/-- LD E,A (R111). -/
def execLd_E_A (s : State) : Result := loadRegReg .E .A s

/-- LD H,B (R111). -/
def execLd_H_B (s : State) : Result := loadRegReg .H .B s

/-- LD H,C (R111). -/
def execLd_H_C (s : State) : Result := loadRegReg .H .C s

/-- LD H,D (R111). -/
def execLd_H_D (s : State) : Result := loadRegReg .H .D s

/-- LD H,E (R111). -/
def execLd_H_E (s : State) : Result := loadRegReg .H .E s

/-- LD H,H (R111). -/
def execLd_H_H (s : State) : Result := loadRegReg .H .H s

/-- LD H,L (R111). -/
def execLd_H_L (s : State) : Result := loadRegReg .H .L s

/-- LD H,A (R111). -/
def execLd_H_A (s : State) : Result := loadRegReg .H .A s

/-- LD L,B (R111). -/
def execLd_L_B (s : State) : Result := loadRegReg .L .B s

/-- LD L,C (R111). -/
def execLd_L_C (s : State) : Result := loadRegReg .L .C s

/-- LD L,D (R111). -/
def execLd_L_D (s : State) : Result := loadRegReg .L .D s

/-- LD L,E (R111). -/
def execLd_L_E (s : State) : Result := loadRegReg .L .E s

/-- LD L,H (R111). -/
def execLd_L_H (s : State) : Result := loadRegReg .L .H s

/-- LD L,L (R111). -/
def execLd_L_L (s : State) : Result := loadRegReg .L .L s

/-- LD L,A (R111). -/
def execLd_L_A (s : State) : Result := loadRegReg .L .A s

/-- LD A,B (R111). -/
def execLd_A_B (s : State) : Result := loadRegReg .A .B s

/-- LD A,C (R111). -/
def execLd_A_C (s : State) : Result := loadRegReg .A .C s

/-- LD A,D (R111). -/
def execLd_A_D (s : State) : Result := loadRegReg .A .D s

/-- LD A,E (R111). -/
def execLd_A_E (s : State) : Result := loadRegReg .A .E s

/-- LD A,H (R111). -/
def execLd_A_H (s : State) : Result := loadRegReg .A .H s

/-- LD A,L (R111). -/
def execLd_A_L (s : State) : Result := loadRegReg .A .L s

/-- LD A,A (R111). -/
def execLd_A_A (s : State) : Result := loadRegReg .A .A s

/-- LD B,(HL) (R112). -/
def execLd_B_mHL (s : State) : Result := loadRegFrom .B (s.pair .HL) 1 s

/-- LD C,(HL) (R112). -/
def execLd_C_mHL (s : State) : Result := loadRegFrom .C (s.pair .HL) 1 s

/-- LD D,(HL) (R112). -/
def execLd_D_mHL (s : State) : Result := loadRegFrom .D (s.pair .HL) 1 s

/-- LD E,(HL) (R112). -/
def execLd_E_mHL (s : State) : Result := loadRegFrom .E (s.pair .HL) 1 s

/-- LD H,(HL) (R112). -/
def execLd_H_mHL (s : State) : Result := loadRegFrom .H (s.pair .HL) 1 s

/-- LD L,(HL) (R112). -/
def execLd_L_mHL (s : State) : Result := loadRegFrom .L (s.pair .HL) 1 s

/-- LD A,(HL) (R112). -/
def execLd_A_mHL (s : State) : Result := loadRegFrom .A (s.pair .HL) 1 s

/-- LD (HL),B (R113). -/
def execLd_mHL_B (s : State) : Result := storeByteAt (s.pair .HL) (s.reg .B) 1 s

/-- LD (HL),C (R113). -/
def execLd_mHL_C (s : State) : Result := storeByteAt (s.pair .HL) (s.reg .C) 1 s

/-- LD (HL),D (R113). -/
def execLd_mHL_D (s : State) : Result := storeByteAt (s.pair .HL) (s.reg .D) 1 s

/-- LD (HL),E (R113). -/
def execLd_mHL_E (s : State) : Result := storeByteAt (s.pair .HL) (s.reg .E) 1 s

/-- LD (HL),H (R113). -/
def execLd_mHL_H (s : State) : Result := storeByteAt (s.pair .HL) (s.reg .H) 1 s

/-- LD (HL),L (R113). -/
def execLd_mHL_L (s : State) : Result := storeByteAt (s.pair .HL) (s.reg .L) 1 s

/-- LD (HL),A (R113). -/
def execLd_mHL_A (s : State) : Result := storeByteAt (s.pair .HL) (s.reg .A) 1 s

/-- LD A,(BC) (R114). -/
def execLd_A_mBC (s : State) : Result := loadRegFrom .A (s.pair .BC) 1 s

/-- LD A,(DE) (R115). -/
def execLd_A_mDE (s : State) : Result := loadRegFrom .A (s.pair .DE) 1 s

/-- LD (BC),A (R116). -/
def execLd_mBC_A (s : State) : Result := storeByteAt (s.pair .BC) s.a 1 s

/-- LD (DE),A (R117). -/
def execLd_mDE_A (s : State) : Result := storeByteAt (s.pair .DE) s.a 1 s

/-- LD B,d8 (R118). -/
def execLd_B_d8 (d8 : Byte) (s : State) : Result := loadRegImm .B d8 s

/-- LD C,d8 (R118). -/
def execLd_C_d8 (d8 : Byte) (s : State) : Result := loadRegImm .C d8 s

/-- LD D,d8 (R118). -/
def execLd_D_d8 (d8 : Byte) (s : State) : Result := loadRegImm .D d8 s

/-- LD E,d8 (R118). -/
def execLd_E_d8 (d8 : Byte) (s : State) : Result := loadRegImm .E d8 s

/-- LD H,d8 (R118). -/
def execLd_H_d8 (d8 : Byte) (s : State) : Result := loadRegImm .H d8 s

/-- LD L,d8 (R118). -/
def execLd_L_d8 (d8 : Byte) (s : State) : Result := loadRegImm .L d8 s

/-- LD A,d8 (R118). -/
def execLd_A_d8 (d8 : Byte) (s : State) : Result := loadRegImm .A d8 s

/-- LD (HL),d8 (R119). -/
def execLd_mHL_d8 (d8 : Byte) (s : State) : Result := storeByteAt (s.pair .HL) d8 2 s

/-- LD BC,d16 (R120). -/
def execLd_BC_d16 (d16 : Word) (s : State) : Result := loadReg16Imm .BC d16 s

/-- LD DE,d16 (R120). -/
def execLd_DE_d16 (d16 : Word) (s : State) : Result := loadReg16Imm .DE d16 s

/-- LD HL,d16 (R120). -/
def execLd_HL_d16 (d16 : Word) (s : State) : Result := loadReg16Imm .HL d16 s

/-- LD SP,d16 (R120). -/
def execLd_SP_d16 (d16 : Word) (s : State) : Result := loadReg16Imm .SP d16 s

/-- LD (a16),A (R121). -/
def execLd_ma16_A (a16 : Word) (s : State) : Result := storeByteAt a16 s.a 3 s

/-- LD A,(a16) (R122). -/
def execLd_A_ma16 (a16 : Word) (s : State) : Result := loadRegFrom .A a16 3 s

/-- LDH (a8),A (R123). -/
def execLdh_ma8_A (a8 : Byte) (s : State) : Result := storeByteAt (highPage a8) s.a 2 s

/-- LDH A,(a8) (R124). -/
def execLdh_A_ma8 (a8 : Byte) (s : State) : Result := loadRegFrom .A (highPage a8) 2 s

/-- LD (C),A (R125). -/
def execLd_mC_A (s : State) : Result := storeByteAt (highPage s.c) s.a 1 s

/-- LD A,(C) (R126). -/
def execLd_A_mC (s : State) : Result := loadRegFrom .A (highPage s.c) 1 s

/-- LDI (HL),A (R127). -/
def execLdi_mHL_A (s : State) : Result := storeAThenSetHl (s.pair .HL + 1) s

/-- LDI A,(HL) (R128). -/
def execLdi_A_mHL (s : State) : Result := loadAThenSetHl (s.pair .HL + 1) s

/-- LDD (HL),A (R129). -/
def execLdd_mHL_A (s : State) : Result := storeAThenSetHl (s.pair .HL - 1) s

/-- LDD A,(HL) (R130). -/
def execLdd_A_mHL (s : State) : Result := loadAThenSetHl (s.pair .HL - 1) s

/-- LD (a16),SP (R131). -/
def execLd_ma16_SP (a16 : Word) (s : State) : Result := .next ((s.write16 a16 s.sp).advance 3)

end Sys2Proof.Machine
end

