-- ==== Sys2Proof/Machine/Logic.lean ====
section
/-! DEFINITION. Logic and compare instructions (spec/42_logic.md R179 to R191). All four flags are written
whatever they held before (R179). -/

namespace Sys2Proof.Machine

/-! ## The shared forms -/

/-- AND (R180 to R182): H is set. -/
def andA (src : AluSrc) (s : State) : Result :=
  let v := s.a &&& s.aluOperand src
  .next (((s.setReg .A v).logicFlags v true).advance (aluLength src))

/-- XOR (R183 to R185). -/
def xorA (src : AluSrc) (s : State) : Result :=
  let v := s.a ^^^ s.aluOperand src
  .next (((s.setReg .A v).logicFlags v false).advance (aluLength src))

/-- OR (R186 to R188). -/
def orA (src : AluSrc) (s : State) : Result :=
  let v := s.a ||| s.aluOperand src
  .next (((s.setReg .A v).logicFlags v false).advance (aluLength src))

/-- CP (R189 to R191): the flags of SUB, A not written. -/
def cpA (src : AluSrc) (s : State) : Result :=
  let r := sub8 s.a (s.aluOperand src)
  .next ((s.flags (some r.z) (some true) (some r.h) (some r.c)).advance (aluLength src))

/-! ## The instructions -/

/-- AND B (R180). -/
def execAnd_B (s : State) : Result := andA (.reg .B) s

/-- AND C (R180). -/
def execAnd_C (s : State) : Result := andA (.reg .C) s

/-- AND D (R180). -/
def execAnd_D (s : State) : Result := andA (.reg .D) s

/-- AND E (R180). -/
def execAnd_E (s : State) : Result := andA (.reg .E) s

/-- AND H (R180). -/
def execAnd_H (s : State) : Result := andA (.reg .H) s

/-- AND L (R180). -/
def execAnd_L (s : State) : Result := andA (.reg .L) s

/-- AND A (R180). -/
def execAnd_A (s : State) : Result := andA (.reg .A) s

/-- AND (HL) (R181). -/
def execAnd_mHL (s : State) : Result := andA .atHL s

/-- AND d8 (R182). -/
def execAnd_d8 (d8 : Byte) (s : State) : Result := andA (.imm d8) s

/-- XOR B (R183). -/
def execXor_B (s : State) : Result := xorA (.reg .B) s

/-- XOR C (R183). -/
def execXor_C (s : State) : Result := xorA (.reg .C) s

/-- XOR D (R183). -/
def execXor_D (s : State) : Result := xorA (.reg .D) s

/-- XOR E (R183). -/
def execXor_E (s : State) : Result := xorA (.reg .E) s

/-- XOR H (R183). -/
def execXor_H (s : State) : Result := xorA (.reg .H) s

/-- XOR L (R183). -/
def execXor_L (s : State) : Result := xorA (.reg .L) s

/-- XOR A (R183). -/
def execXor_A (s : State) : Result := xorA (.reg .A) s

/-- XOR (HL) (R184). -/
def execXor_mHL (s : State) : Result := xorA .atHL s

/-- XOR d8 (R185). -/
def execXor_d8 (d8 : Byte) (s : State) : Result := xorA (.imm d8) s

/-- OR B (R186). -/
def execOr_B (s : State) : Result := orA (.reg .B) s

/-- OR C (R186). -/
def execOr_C (s : State) : Result := orA (.reg .C) s

/-- OR D (R186). -/
def execOr_D (s : State) : Result := orA (.reg .D) s

/-- OR E (R186). -/
def execOr_E (s : State) : Result := orA (.reg .E) s

/-- OR H (R186). -/
def execOr_H (s : State) : Result := orA (.reg .H) s

/-- OR L (R186). -/
def execOr_L (s : State) : Result := orA (.reg .L) s

/-- OR A (R186). -/
def execOr_A (s : State) : Result := orA (.reg .A) s

/-- OR (HL) (R187). -/
def execOr_mHL (s : State) : Result := orA .atHL s

/-- OR d8 (R188). -/
def execOr_d8 (d8 : Byte) (s : State) : Result := orA (.imm d8) s

/-- CP B (R189). -/
def execCp_B (s : State) : Result := cpA (.reg .B) s

/-- CP C (R189). -/
def execCp_C (s : State) : Result := cpA (.reg .C) s

/-- CP D (R189). -/
def execCp_D (s : State) : Result := cpA (.reg .D) s

/-- CP E (R189). -/
def execCp_E (s : State) : Result := cpA (.reg .E) s

/-- CP H (R189). -/
def execCp_H (s : State) : Result := cpA (.reg .H) s

/-- CP L (R189). -/
def execCp_L (s : State) : Result := cpA (.reg .L) s

/-- CP A (R189). -/
def execCp_A (s : State) : Result := cpA (.reg .A) s

/-- CP (HL) (R190). -/
def execCp_mHL (s : State) : Result := cpA .atHL s

/-- CP d8 (R191). -/
def execCp_d8 (d8 : Byte) (s : State) : Result := cpA (.imm d8) s

end Sys2Proof.Machine
end

