-- ==== Sys2Proof/Machine/Rotate.lean ====
section
/-! DEFINITION. The two accumulator rotates (spec/44_rotate.md R210 to R212): Z, N and H cleared, C the bit
rotated out, the old C not used. -/

namespace Sys2Proof.Machine

/-- RLCA (R210): old bit 7 goes to bit 0 and to C. -/
def execRlca (s : State) : Result :=
  .next (((s.setReg .A ((s.a <<< 1) ||| (s.a >>> 7))).flags (some false) (some false) (some false)
    (some (s.a.getLsbD 7))).advance 1)

/-- RRCA (R211): old bit 0 goes to bit 7 and to C. -/
def execRrca (s : State) : Result :=
  .next (((s.setReg .A ((s.a >>> 1) ||| (s.a <<< 7))).flags (some false) (some false) (some false)
    (some (s.a.getLsbD 0))).advance 1)

end Sys2Proof.Machine
end

