-- ==== Sys2Proof/Machine/Undefined.lean ====
section
/-! DEFINITION. The bytes that select no implemented instruction (spec/45_undefined_and_prefixed.md R215 to
R217). Each takes the exception UnknownInstruction, or, for a tolerated candidate, does nothing. -/

namespace Sys2Proof.Machine

/-- A candidate byte under a given `TOLERATED_UNDEFINED` (R215): in the set, a one-byte no-operation;
outside it, UnknownInstruction (R216). -/
def candidateOpcode (tolerates : Byte → Bool) (op : Byte) (s : State) : Result :=
  .next (if tolerates op then s.advance 1 else s.raiseUnknownInstruction op s.pc)

/-- An officially undefined byte (R215), under the open parameter (D3; log entry 2). -/
def execUndefined (op : Byte) (s : State) : Result :=
  candidateOpcode Config.toleratesUndefined op s

/-- A byte with no instruction (R216): the record is the byte and `pc0`. -/
def execUnknown (op : Byte) (s : State) : Result :=
  .next (s.raiseUnknownInstruction op s.pc)

/-- The prefix and any second byte (R217): the prefixed table is empty, the record is the second byte
and its own address (D2). -/
def execPrefixCB (b1 : Byte) (s : State) : Result :=
  .next (s.raiseUnknownInstruction b1 (s.pc + 1))

end Sys2Proof.Machine
end

