-- ==== Sys2Proof/Machine/Dispatch.lean ====
section
/-! DEFINITION. The meaning of each instruction, one arm for each constructor of `Instr`. -/

namespace Sys2Proof.Machine

/-- Runs one decoded instruction, whose first byte is at PC (spec/00_scope.md R13). -/
def exec (i : Instr) (s : State) : Host.Outcome State Fault Refusal :=
  match i with
  -- R111
  | .ld_B_B => Sys2Proof.Machine.execLd_B_B s
  | .ld_B_C => Sys2Proof.Machine.execLd_B_C s
  | .ld_B_D => Sys2Proof.Machine.execLd_B_D s
  | .ld_B_E => Sys2Proof.Machine.execLd_B_E s
  | .ld_B_H => Sys2Proof.Machine.execLd_B_H s
  | .ld_B_L => Sys2Proof.Machine.execLd_B_L s
  | .ld_B_A => Sys2Proof.Machine.execLd_B_A s
  | .ld_C_B => Sys2Proof.Machine.execLd_C_B s
  | .ld_C_C => Sys2Proof.Machine.execLd_C_C s
  | .ld_C_D => Sys2Proof.Machine.execLd_C_D s
  | .ld_C_E => Sys2Proof.Machine.execLd_C_E s
  | .ld_C_H => Sys2Proof.Machine.execLd_C_H s
  | .ld_C_L => Sys2Proof.Machine.execLd_C_L s
  | .ld_C_A => Sys2Proof.Machine.execLd_C_A s
  | .ld_D_B => Sys2Proof.Machine.execLd_D_B s
  | .ld_D_C => Sys2Proof.Machine.execLd_D_C s
  | .ld_D_D => Sys2Proof.Machine.execLd_D_D s
  | .ld_D_E => Sys2Proof.Machine.execLd_D_E s
  | .ld_D_H => Sys2Proof.Machine.execLd_D_H s
  | .ld_D_L => Sys2Proof.Machine.execLd_D_L s
  | .ld_D_A => Sys2Proof.Machine.execLd_D_A s
  | .ld_E_B => Sys2Proof.Machine.execLd_E_B s
  | .ld_E_C => Sys2Proof.Machine.execLd_E_C s
  | .ld_E_D => Sys2Proof.Machine.execLd_E_D s
  | .ld_E_E => Sys2Proof.Machine.execLd_E_E s
  | .ld_E_H => Sys2Proof.Machine.execLd_E_H s
  | .ld_E_L => Sys2Proof.Machine.execLd_E_L s
  | .ld_E_A => Sys2Proof.Machine.execLd_E_A s
  | .ld_H_B => Sys2Proof.Machine.execLd_H_B s
  | .ld_H_C => Sys2Proof.Machine.execLd_H_C s
  | .ld_H_D => Sys2Proof.Machine.execLd_H_D s
  | .ld_H_E => Sys2Proof.Machine.execLd_H_E s
  | .ld_H_H => Sys2Proof.Machine.execLd_H_H s
  | .ld_H_L => Sys2Proof.Machine.execLd_H_L s
  | .ld_H_A => Sys2Proof.Machine.execLd_H_A s
  | .ld_L_B => Sys2Proof.Machine.execLd_L_B s
  | .ld_L_C => Sys2Proof.Machine.execLd_L_C s
  | .ld_L_D => Sys2Proof.Machine.execLd_L_D s
  | .ld_L_E => Sys2Proof.Machine.execLd_L_E s
  | .ld_L_H => Sys2Proof.Machine.execLd_L_H s
  | .ld_L_L => Sys2Proof.Machine.execLd_L_L s
  | .ld_L_A => Sys2Proof.Machine.execLd_L_A s
  | .ld_A_B => Sys2Proof.Machine.execLd_A_B s
  | .ld_A_C => Sys2Proof.Machine.execLd_A_C s
  | .ld_A_D => Sys2Proof.Machine.execLd_A_D s
  | .ld_A_E => Sys2Proof.Machine.execLd_A_E s
  | .ld_A_H => Sys2Proof.Machine.execLd_A_H s
  | .ld_A_L => Sys2Proof.Machine.execLd_A_L s
  | .ld_A_A => Sys2Proof.Machine.execLd_A_A s
  -- R112
  | .ld_B_mHL => Sys2Proof.Machine.execLd_B_mHL s
  | .ld_C_mHL => Sys2Proof.Machine.execLd_C_mHL s
  | .ld_D_mHL => Sys2Proof.Machine.execLd_D_mHL s
  | .ld_E_mHL => Sys2Proof.Machine.execLd_E_mHL s
  | .ld_H_mHL => Sys2Proof.Machine.execLd_H_mHL s
  | .ld_L_mHL => Sys2Proof.Machine.execLd_L_mHL s
  | .ld_A_mHL => Sys2Proof.Machine.execLd_A_mHL s
  -- R113
  | .ld_mHL_B => Sys2Proof.Machine.execLd_mHL_B s
  | .ld_mHL_C => Sys2Proof.Machine.execLd_mHL_C s
  | .ld_mHL_D => Sys2Proof.Machine.execLd_mHL_D s
  | .ld_mHL_E => Sys2Proof.Machine.execLd_mHL_E s
  | .ld_mHL_H => Sys2Proof.Machine.execLd_mHL_H s
  | .ld_mHL_L => Sys2Proof.Machine.execLd_mHL_L s
  | .ld_mHL_A => Sys2Proof.Machine.execLd_mHL_A s
  -- R114
  | .ld_A_mBC => Sys2Proof.Machine.execLd_A_mBC s
  -- R115
  | .ld_A_mDE => Sys2Proof.Machine.execLd_A_mDE s
  -- R116
  | .ld_mBC_A => Sys2Proof.Machine.execLd_mBC_A s
  -- R117
  | .ld_mDE_A => Sys2Proof.Machine.execLd_mDE_A s
  -- R118
  | .ld_B_d8 d8 => Sys2Proof.Machine.execLd_B_d8 d8 s
  | .ld_C_d8 d8 => Sys2Proof.Machine.execLd_C_d8 d8 s
  | .ld_D_d8 d8 => Sys2Proof.Machine.execLd_D_d8 d8 s
  | .ld_E_d8 d8 => Sys2Proof.Machine.execLd_E_d8 d8 s
  | .ld_H_d8 d8 => Sys2Proof.Machine.execLd_H_d8 d8 s
  | .ld_L_d8 d8 => Sys2Proof.Machine.execLd_L_d8 d8 s
  | .ld_A_d8 d8 => Sys2Proof.Machine.execLd_A_d8 d8 s
  -- R119
  | .ld_mHL_d8 d8 => Sys2Proof.Machine.execLd_mHL_d8 d8 s
  -- R120
  | .ld_BC_d16 d16 => Sys2Proof.Machine.execLd_BC_d16 d16 s
  | .ld_DE_d16 d16 => Sys2Proof.Machine.execLd_DE_d16 d16 s
  | .ld_HL_d16 d16 => Sys2Proof.Machine.execLd_HL_d16 d16 s
  | .ld_SP_d16 d16 => Sys2Proof.Machine.execLd_SP_d16 d16 s
  -- R121
  | .ld_ma16_A a16 => Sys2Proof.Machine.execLd_ma16_A a16 s
  -- R122
  | .ld_A_ma16 a16 => Sys2Proof.Machine.execLd_A_ma16 a16 s
  -- R123
  | .ldh_ma8_A a8 => Sys2Proof.Machine.execLdh_ma8_A a8 s
  -- R124
  | .ldh_A_ma8 a8 => Sys2Proof.Machine.execLdh_A_ma8 a8 s
  -- R125
  | .ld_mC_A => Sys2Proof.Machine.execLd_mC_A s
  -- R126
  | .ld_A_mC => Sys2Proof.Machine.execLd_A_mC s
  -- R127
  | .ldi_mHL_A => Sys2Proof.Machine.execLdi_mHL_A s
  -- R128
  | .ldi_A_mHL => Sys2Proof.Machine.execLdi_A_mHL s
  -- R129
  | .ldd_mHL_A => Sys2Proof.Machine.execLdd_mHL_A s
  -- R130
  | .ldd_A_mHL => Sys2Proof.Machine.execLdd_A_mHL s
  -- R131
  | .ld_ma16_SP a16 => Sys2Proof.Machine.execLd_ma16_SP a16 s
  -- R153
  | .add_A_B => Sys2Proof.Machine.execAdd_A_B s
  | .add_A_C => Sys2Proof.Machine.execAdd_A_C s
  | .add_A_D => Sys2Proof.Machine.execAdd_A_D s
  | .add_A_E => Sys2Proof.Machine.execAdd_A_E s
  | .add_A_H => Sys2Proof.Machine.execAdd_A_H s
  | .add_A_L => Sys2Proof.Machine.execAdd_A_L s
  | .add_A_A => Sys2Proof.Machine.execAdd_A_A s
  -- R154
  | .add_A_mHL => Sys2Proof.Machine.execAdd_A_mHL s
  -- R155
  | .add_A_d8 d8 => Sys2Proof.Machine.execAdd_A_d8 d8 s
  -- R156
  | .adc_A_B => Sys2Proof.Machine.execAdc_A_B s
  | .adc_A_C => Sys2Proof.Machine.execAdc_A_C s
  | .adc_A_D => Sys2Proof.Machine.execAdc_A_D s
  | .adc_A_E => Sys2Proof.Machine.execAdc_A_E s
  | .adc_A_H => Sys2Proof.Machine.execAdc_A_H s
  | .adc_A_L => Sys2Proof.Machine.execAdc_A_L s
  | .adc_A_A => Sys2Proof.Machine.execAdc_A_A s
  -- R157
  | .adc_A_mHL => Sys2Proof.Machine.execAdc_A_mHL s
  -- R158
  | .adc_A_d8 d8 => Sys2Proof.Machine.execAdc_A_d8 d8 s
  -- R159
  | .sub_B => Sys2Proof.Machine.execSub_B s
  | .sub_C => Sys2Proof.Machine.execSub_C s
  | .sub_D => Sys2Proof.Machine.execSub_D s
  | .sub_E => Sys2Proof.Machine.execSub_E s
  | .sub_H => Sys2Proof.Machine.execSub_H s
  | .sub_L => Sys2Proof.Machine.execSub_L s
  | .sub_A => Sys2Proof.Machine.execSub_A s
  -- R160
  | .sub_mHL => Sys2Proof.Machine.execSub_mHL s
  -- R161
  | .sub_d8 d8 => Sys2Proof.Machine.execSub_d8 d8 s
  -- R162
  | .inc_B => Sys2Proof.Machine.execInc_B s
  | .inc_C => Sys2Proof.Machine.execInc_C s
  | .inc_D => Sys2Proof.Machine.execInc_D s
  | .inc_E => Sys2Proof.Machine.execInc_E s
  | .inc_H => Sys2Proof.Machine.execInc_H s
  | .inc_L => Sys2Proof.Machine.execInc_L s
  | .inc_A => Sys2Proof.Machine.execInc_A s
  -- R163
  | .inc_mHL => Sys2Proof.Machine.execInc_mHL s
  -- R164
  | .dec_B => Sys2Proof.Machine.execDec_B s
  | .dec_C => Sys2Proof.Machine.execDec_C s
  | .dec_D => Sys2Proof.Machine.execDec_D s
  | .dec_E => Sys2Proof.Machine.execDec_E s
  | .dec_H => Sys2Proof.Machine.execDec_H s
  | .dec_L => Sys2Proof.Machine.execDec_L s
  | .dec_A => Sys2Proof.Machine.execDec_A s
  -- R165
  | .dec_mHL => Sys2Proof.Machine.execDec_mHL s
  -- R166
  | .inc_BC => Sys2Proof.Machine.execInc_BC s
  | .inc_DE => Sys2Proof.Machine.execInc_DE s
  | .inc_HL => Sys2Proof.Machine.execInc_HL s
  | .inc_SP => Sys2Proof.Machine.execInc_SP s
  -- R167
  | .dec_BC => Sys2Proof.Machine.execDec_BC s
  | .dec_DE => Sys2Proof.Machine.execDec_DE s
  | .dec_HL => Sys2Proof.Machine.execDec_HL s
  | .dec_SP => Sys2Proof.Machine.execDec_SP s
  -- R168
  | .add_HL_BC => Sys2Proof.Machine.execAdd_HL_BC s
  | .add_HL_DE => Sys2Proof.Machine.execAdd_HL_DE s
  | .add_HL_HL => Sys2Proof.Machine.execAdd_HL_HL s
  | .add_HL_SP => Sys2Proof.Machine.execAdd_HL_SP s
  -- R170
  | .add_SP_e8 e8 => Sys2Proof.Machine.execAdd_SP_e8 e8 s
  -- R171
  | .ldhl_SP_e8 e8 => Sys2Proof.Machine.execLdhl_SP_e8 e8 s
  -- R180
  | .and_B => Sys2Proof.Machine.execAnd_B s
  | .and_C => Sys2Proof.Machine.execAnd_C s
  | .and_D => Sys2Proof.Machine.execAnd_D s
  | .and_E => Sys2Proof.Machine.execAnd_E s
  | .and_H => Sys2Proof.Machine.execAnd_H s
  | .and_L => Sys2Proof.Machine.execAnd_L s
  | .and_A => Sys2Proof.Machine.execAnd_A s
  -- R181
  | .and_mHL => Sys2Proof.Machine.execAnd_mHL s
  -- R182
  | .and_d8 d8 => Sys2Proof.Machine.execAnd_d8 d8 s
  -- R183
  | .xor_B => Sys2Proof.Machine.execXor_B s
  | .xor_C => Sys2Proof.Machine.execXor_C s
  | .xor_D => Sys2Proof.Machine.execXor_D s
  | .xor_E => Sys2Proof.Machine.execXor_E s
  | .xor_H => Sys2Proof.Machine.execXor_H s
  | .xor_L => Sys2Proof.Machine.execXor_L s
  | .xor_A => Sys2Proof.Machine.execXor_A s
  -- R184
  | .xor_mHL => Sys2Proof.Machine.execXor_mHL s
  -- R185
  | .xor_d8 d8 => Sys2Proof.Machine.execXor_d8 d8 s
  -- R186
  | .or_B => Sys2Proof.Machine.execOr_B s
  | .or_C => Sys2Proof.Machine.execOr_C s
  | .or_D => Sys2Proof.Machine.execOr_D s
  | .or_E => Sys2Proof.Machine.execOr_E s
  | .or_H => Sys2Proof.Machine.execOr_H s
  | .or_L => Sys2Proof.Machine.execOr_L s
  | .or_A => Sys2Proof.Machine.execOr_A s
  -- R187
  | .or_mHL => Sys2Proof.Machine.execOr_mHL s
  -- R188
  | .or_d8 d8 => Sys2Proof.Machine.execOr_d8 d8 s
  -- R189
  | .cp_B => Sys2Proof.Machine.execCp_B s
  | .cp_C => Sys2Proof.Machine.execCp_C s
  | .cp_D => Sys2Proof.Machine.execCp_D s
  | .cp_E => Sys2Proof.Machine.execCp_E s
  | .cp_H => Sys2Proof.Machine.execCp_H s
  | .cp_L => Sys2Proof.Machine.execCp_L s
  | .cp_A => Sys2Proof.Machine.execCp_A s
  -- R190
  | .cp_mHL => Sys2Proof.Machine.execCp_mHL s
  -- R191
  | .cp_d8 d8 => Sys2Proof.Machine.execCp_d8 d8 s
  -- R196
  | .jp_a16 a16 => Sys2Proof.Machine.execJp_a16 a16 s
  -- R197
  | .jp_NZ_a16 a16 => Sys2Proof.Machine.execJp_NZ_a16 a16 s
  | .jp_Z_a16 a16 => Sys2Proof.Machine.execJp_Z_a16 a16 s
  | .jp_NC_a16 a16 => Sys2Proof.Machine.execJp_NC_a16 a16 s
  | .jp_C_a16 a16 => Sys2Proof.Machine.execJp_C_a16 a16 s
  -- R198
  | .jr_e8 e8 => Sys2Proof.Machine.execJr_e8 e8 s
  -- R199
  | .jr_NZ_e8 e8 => Sys2Proof.Machine.execJr_NZ_e8 e8 s
  | .jr_Z_e8 e8 => Sys2Proof.Machine.execJr_Z_e8 e8 s
  | .jr_NC_e8 e8 => Sys2Proof.Machine.execJr_NC_e8 e8 s
  | .jr_C_e8 e8 => Sys2Proof.Machine.execJr_C_e8 e8 s
  -- R200
  | .call_a16 a16 => Sys2Proof.Machine.execCall_a16 a16 s
  -- R201
  | .call_NZ_a16 a16 => Sys2Proof.Machine.execCall_NZ_a16 a16 s
  | .call_Z_a16 a16 => Sys2Proof.Machine.execCall_Z_a16 a16 s
  | .call_NC_a16 a16 => Sys2Proof.Machine.execCall_NC_a16 a16 s
  | .call_C_a16 a16 => Sys2Proof.Machine.execCall_C_a16 a16 s
  -- R202
  | .ret => Sys2Proof.Machine.execRet s
  -- R203
  | .ret_NZ => Sys2Proof.Machine.execRet_NZ s
  | .ret_Z => Sys2Proof.Machine.execRet_Z s
  | .ret_NC => Sys2Proof.Machine.execRet_NC s
  | .ret_C => Sys2Proof.Machine.execRet_C s
  -- R204
  | .rst_0x00 => Sys2Proof.Machine.execRst_0x00 s
  | .rst_0x08 => Sys2Proof.Machine.execRst_0x08 s
  | .rst_0x10 => Sys2Proof.Machine.execRst_0x10 s
  | .rst_0x18 => Sys2Proof.Machine.execRst_0x18 s
  | .rst_0x20 => Sys2Proof.Machine.execRst_0x20 s
  | .rst_0x28 => Sys2Proof.Machine.execRst_0x28 s
  | .rst_0x30 => Sys2Proof.Machine.execRst_0x30 s
  | .rst_0x38 => Sys2Proof.Machine.execRst_0x38 s
  -- R210
  | .rlca => Sys2Proof.Machine.execRlca s
  -- R211
  | .rrca => Sys2Proof.Machine.execRrca s
  -- R215
  | .undefined op => Sys2Proof.Machine.execUndefined op s
  -- R216
  | .unknown op => Sys2Proof.Machine.execUnknown op s
  -- R217
  | .prefixCB b1 => Sys2Proof.Machine.execPrefixCB b1 s

end Sys2Proof.Machine
end

