-- ==== Sys2Proof/WellFormed.lean ====
section
/-! DEFINITION. Which instruction terms stand for bytes of the primary table (spec/30_encoding.md R88,
R90). Only the argument of `unknown` and of `undefined` can be wrong: every other constructor stands
for one table row, whatever its immediate operand. -/

namespace Sys2Proof

/-- The 32 primary bytes without an instruction (R90): 0xD3 and the 31 bytes of R218. -/
def absentBytes : List Byte :=
  [0x00, 0x10, 0x17, 0x1F, 0x27, 0x2F, 0x37, 0x3F, 0x76,
   0x98, 0x99, 0x9A, 0x9B, 0x9C, 0x9D, 0x9E, 0x9F,
   0xC1, 0xC5, 0xD1, 0xD3, 0xD5, 0xD9, 0xDE, 0xE1, 0xE5, 0xE9, 0xF1, 0xF3, 0xF5, 0xF9, 0xFB]

/-- A term is well formed when the opcode byte it carries, if any, is of its class (R90). -/
def Instr.wf : Instr → Bool
  | .unknown op => decide (op ∈ absentBytes)
  | .undefined op => decide (op ∈ Config.undefinedCandidates)
  | _ => true

end Sys2Proof
end

