-- ==== Sys2Proof/Decode.lean ====
section
/-! DEFINITION. From bytes to instructions and back (spec/30_encoding.md). The decoder follows the
primary table R88 and the formats R81; the encoder is written from the "Encoding" line of each
instruction's rule (files 40 to 45). -/

namespace Sys2Proof

/-! ## The primary table (R88) -/

/-- A cell of the primary table: the instruction and its format (R81), or the class of a byte that
selects none (R90). -/
inductive Entry where
  /-- format `OP` -/
  | implied (i : Instr)
  /-- formats `OP_d8`, `OP_a8`, `OP_e8` -/
  | imm8 (f : Byte → Instr)
  /-- formats `OP_d16`, `OP_a16` -/
  | imm16 (f : Word → Instr)
  /-- a byte that always raises UnknownInstruction -/
  | absent
  /-- a candidate of `TOLERATED_UNDEFINED` -/
  | candidate
  /-- 0xCB, format `CB_OP` -/
  | cbPrefix

/-- Row 0x of R88. -/
def opcodeRow0 : List Entry :=
  [.absent, .imm16 .ld_BC_d16, .implied .ld_mBC_A, .implied .inc_BC, .implied .inc_B,
   .implied .dec_B, .imm8 .ld_B_d8, .implied .rlca, .imm16 .ld_ma16_SP, .implied .add_HL_BC,
   .implied .ld_A_mBC, .implied .dec_BC, .implied .inc_C, .implied .dec_C, .imm8 .ld_C_d8,
   .implied .rrca]

/-- Row 1x of R88. -/
def opcodeRow1 : List Entry :=
  [.absent, .imm16 .ld_DE_d16, .implied .ld_mDE_A, .implied .inc_DE, .implied .inc_D,
   .implied .dec_D, .imm8 .ld_D_d8, .absent, .imm8 .jr_e8, .implied .add_HL_DE,
   .implied .ld_A_mDE, .implied .dec_DE, .implied .inc_E, .implied .dec_E, .imm8 .ld_E_d8, .absent]

/-- Row 2x of R88. -/
def opcodeRow2 : List Entry :=
  [.imm8 .jr_NZ_e8, .imm16 .ld_HL_d16, .implied .ldi_mHL_A, .implied .inc_HL, .implied .inc_H,
   .implied .dec_H, .imm8 .ld_H_d8, .absent, .imm8 .jr_Z_e8, .implied .add_HL_HL,
   .implied .ldi_A_mHL, .implied .dec_HL, .implied .inc_L, .implied .dec_L, .imm8 .ld_L_d8,
   .absent]

/-- Row 3x of R88. -/
def opcodeRow3 : List Entry :=
  [.imm8 .jr_NC_e8, .imm16 .ld_SP_d16, .implied .ldd_mHL_A, .implied .inc_SP, .implied .inc_mHL,
   .implied .dec_mHL, .imm8 .ld_mHL_d8, .absent, .imm8 .jr_C_e8, .implied .add_HL_SP,
   .implied .ldd_A_mHL, .implied .dec_SP, .implied .inc_A, .implied .dec_A, .imm8 .ld_A_d8,
   .absent]

/-- Row 4x of R88. -/
def opcodeRow4 : List Entry :=
  [.implied .ld_B_B, .implied .ld_B_C, .implied .ld_B_D, .implied .ld_B_E, .implied .ld_B_H,
   .implied .ld_B_L, .implied .ld_B_mHL, .implied .ld_B_A, .implied .ld_C_B, .implied .ld_C_C,
   .implied .ld_C_D, .implied .ld_C_E, .implied .ld_C_H, .implied .ld_C_L, .implied .ld_C_mHL,
   .implied .ld_C_A]

/-- Row 5x of R88. -/
def opcodeRow5 : List Entry :=
  [.implied .ld_D_B, .implied .ld_D_C, .implied .ld_D_D, .implied .ld_D_E, .implied .ld_D_H,
   .implied .ld_D_L, .implied .ld_D_mHL, .implied .ld_D_A, .implied .ld_E_B, .implied .ld_E_C,
   .implied .ld_E_D, .implied .ld_E_E, .implied .ld_E_H, .implied .ld_E_L, .implied .ld_E_mHL,
   .implied .ld_E_A]

/-- Row 6x of R88. -/
def opcodeRow6 : List Entry :=
  [.implied .ld_H_B, .implied .ld_H_C, .implied .ld_H_D, .implied .ld_H_E, .implied .ld_H_H,
   .implied .ld_H_L, .implied .ld_H_mHL, .implied .ld_H_A, .implied .ld_L_B, .implied .ld_L_C,
   .implied .ld_L_D, .implied .ld_L_E, .implied .ld_L_H, .implied .ld_L_L, .implied .ld_L_mHL,
   .implied .ld_L_A]

/-- Row 7x of R88. -/
def opcodeRow7 : List Entry :=
  [.implied .ld_mHL_B, .implied .ld_mHL_C, .implied .ld_mHL_D, .implied .ld_mHL_E,
   .implied .ld_mHL_H, .implied .ld_mHL_L, .absent, .implied .ld_mHL_A, .implied .ld_A_B,
   .implied .ld_A_C, .implied .ld_A_D, .implied .ld_A_E, .implied .ld_A_H, .implied .ld_A_L,
   .implied .ld_A_mHL, .implied .ld_A_A]

/-- Row 8x of R88. -/
def opcodeRow8 : List Entry :=
  [.implied .add_A_B, .implied .add_A_C, .implied .add_A_D, .implied .add_A_E, .implied .add_A_H,
   .implied .add_A_L, .implied .add_A_mHL, .implied .add_A_A, .implied .adc_A_B,
   .implied .adc_A_C, .implied .adc_A_D, .implied .adc_A_E, .implied .adc_A_H, .implied .adc_A_L,
   .implied .adc_A_mHL, .implied .adc_A_A]

/-- Row 9x of R88. -/
def opcodeRow9 : List Entry :=
  [.implied .sub_B, .implied .sub_C, .implied .sub_D, .implied .sub_E, .implied .sub_H,
   .implied .sub_L, .implied .sub_mHL, .implied .sub_A, .absent, .absent, .absent, .absent,
   .absent, .absent, .absent, .absent]

/-- Row Ax of R88. -/
def opcodeRowA : List Entry :=
  [.implied .and_B, .implied .and_C, .implied .and_D, .implied .and_E, .implied .and_H,
   .implied .and_L, .implied .and_mHL, .implied .and_A, .implied .xor_B, .implied .xor_C,
   .implied .xor_D, .implied .xor_E, .implied .xor_H, .implied .xor_L, .implied .xor_mHL,
   .implied .xor_A]

/-- Row Bx of R88. -/
def opcodeRowB : List Entry :=
  [.implied .or_B, .implied .or_C, .implied .or_D, .implied .or_E, .implied .or_H, .implied .or_L,
   .implied .or_mHL, .implied .or_A, .implied .cp_B, .implied .cp_C, .implied .cp_D,
   .implied .cp_E, .implied .cp_H, .implied .cp_L, .implied .cp_mHL, .implied .cp_A]

/-- Row Cx of R88. -/
def opcodeRowC : List Entry :=
  [.implied .ret_NZ, .absent, .imm16 .jp_NZ_a16, .imm16 .jp_a16, .imm16 .call_NZ_a16, .absent,
   .imm8 .add_A_d8, .implied .rst_0x00, .implied .ret_Z, .implied .ret, .imm16 .jp_Z_a16,
   .cbPrefix, .imm16 .call_Z_a16, .imm16 .call_a16, .imm8 .adc_A_d8, .implied .rst_0x08]

/-- Row Dx of R88. -/
def opcodeRowD : List Entry :=
  [.implied .ret_NC, .absent, .imm16 .jp_NC_a16, .absent, .imm16 .call_NC_a16, .absent,
   .imm8 .sub_d8, .implied .rst_0x10, .implied .ret_C, .absent, .imm16 .jp_C_a16, .candidate,
   .imm16 .call_C_a16, .candidate, .absent, .implied .rst_0x18]

/-- Row Ex of R88. -/
def opcodeRowE : List Entry :=
  [.imm8 .ldh_ma8_A, .absent, .implied .ld_mC_A, .candidate, .candidate, .absent, .imm8 .and_d8,
   .implied .rst_0x20, .imm8 .add_SP_e8, .absent, .imm16 .ld_ma16_A, .candidate, .candidate,
   .candidate, .imm8 .xor_d8, .implied .rst_0x28]

/-- Row Fx of R88. -/
def opcodeRowF : List Entry :=
  [.imm8 .ldh_A_ma8, .absent, .implied .ld_A_mC, .absent, .candidate, .absent, .imm8 .or_d8,
   .implied .rst_0x30, .imm8 .ldhl_SP_e8, .absent, .imm16 .ld_A_ma16, .absent, .candidate,
   .candidate, .imm8 .cp_d8, .implied .rst_0x38]

/-- The primary table, row `x` holding the bytes `x0` to `xF` (R88). -/
def primaryTable : List (List Entry) :=
  [opcodeRow0, opcodeRow1, opcodeRow2, opcodeRow3, opcodeRow4, opcodeRow5, opcodeRow6, opcodeRow7]
    ++ [opcodeRow8, opcodeRow9, opcodeRowA, opcodeRowB, opcodeRowC, opcodeRowD, opcodeRowE,
        opcodeRowF]

/-- `PrimaryTable[op]` (R92). The table has all 256 cells, so the default is never taken. -/
def tableEntry (op : Byte) : Entry :=
  (primaryTable.getD (op.toNat / 16) []).getD (op.toNat % 16) .absent

/-- The length of an entry's format in bytes (R81). -/
def Entry.length : Entry → Nat
  | .implied _ => 1
  | .imm8 _ => 2
  | .imm16 _ => 3
  | .absent => 1
  | .candidate => 1
  | .cbPrefix => 2

/-- The length of the instruction that begins with `op`: the first byte alone decides (R82). -/
def lengthOf (op : Byte) : Nat := (tableEntry op).length

/-! ## The decoder (R92) -/

/-- The instruction that begins with `op`, whose next two bytes are `b1` and `b2`; a format that has
fewer operand bytes does not look at them. Total: every byte takes one arm (R92). A 16-bit operand
is `b2:b1` (R87). -/
def decodeBytes (op b1 b2 : Byte) : Instr :=
  match tableEntry op with
  | .implied i => i
  | .imm8 f => f b1
  | .imm16 f => f (joinBytes b2 b1)
  | .absent => .unknown op
  | .candidate => .undefined op
  | .cbPrefix => .prefixCB b1

/-- Why a byte string is not an instruction. The decoder refuses no opcode: a byte without an
instruction decodes to `unknown`, `undefined` or `prefixCB`. -/
inductive DecodeError where
  /-- there is no byte at all -/
  | noBytes
  /-- the string ends before the operand bytes its first byte asks for -/
  | truncated
  deriving DecidableEq, Repr

/-- Decodes the first instruction of a byte string and returns the bytes after it. -/
def decode : List Byte → Except DecodeError (Instr × List Byte)
  | [] => .error .noBytes
  | op :: rest =>
    if rest.length + 1 < lengthOf op then .error .truncated
    else .ok (decodeBytes op (rest.getD 0 0) (rest.getD 1 0), rest.drop (lengthOf op - 1))

/-- The bytes of a table word, lowest address first: bit 0 of `w` is the least significant bit of the
first byte; the bits above `nbits` are 0. -/
def tableWordBytes (nbits w : Nat) : List Byte :=
  [BitVec.ofNat 8 (w % 2 ^ nbits), BitVec.ofNat 8 (w % 2 ^ nbits / 256),
   BitVec.ofNat 8 (w % 2 ^ nbits / 65536)]

/-- The instruction the decoder reads from a table word (log entry 16). -/
def decodeTableWord (nbits w : Nat) : Option Instr :=
  match decode (tableWordBytes nbits w) with
  | .ok (i, _) => some i
  | .error _ => none

/-! ## The encoder -/

/-- The bytes of an instruction (R81; each arm from the Encoding line of the rule above it). -/
def encode : Instr → List Byte
  -- R111
  | .ld_B_B => [0x40]
  | .ld_B_C => [0x41]
  | .ld_B_D => [0x42]
  | .ld_B_E => [0x43]
  | .ld_B_H => [0x44]
  | .ld_B_L => [0x45]
  | .ld_B_A => [0x47]
  | .ld_C_B => [0x48]
  | .ld_C_C => [0x49]
  | .ld_C_D => [0x4A]
  | .ld_C_E => [0x4B]
  | .ld_C_H => [0x4C]
  | .ld_C_L => [0x4D]
  | .ld_C_A => [0x4F]
  | .ld_D_B => [0x50]
  | .ld_D_C => [0x51]
  | .ld_D_D => [0x52]
  | .ld_D_E => [0x53]
  | .ld_D_H => [0x54]
  | .ld_D_L => [0x55]
  | .ld_D_A => [0x57]
  | .ld_E_B => [0x58]
  | .ld_E_C => [0x59]
  | .ld_E_D => [0x5A]
  | .ld_E_E => [0x5B]
  | .ld_E_H => [0x5C]
  | .ld_E_L => [0x5D]
  | .ld_E_A => [0x5F]
  | .ld_H_B => [0x60]
  | .ld_H_C => [0x61]
  | .ld_H_D => [0x62]
  | .ld_H_E => [0x63]
  | .ld_H_H => [0x64]
  | .ld_H_L => [0x65]
  | .ld_H_A => [0x67]
  | .ld_L_B => [0x68]
  | .ld_L_C => [0x69]
  | .ld_L_D => [0x6A]
  | .ld_L_E => [0x6B]
  | .ld_L_H => [0x6C]
  | .ld_L_L => [0x6D]
  | .ld_L_A => [0x6F]
  | .ld_A_B => [0x78]
  | .ld_A_C => [0x79]
  | .ld_A_D => [0x7A]
  | .ld_A_E => [0x7B]
  | .ld_A_H => [0x7C]
  | .ld_A_L => [0x7D]
  | .ld_A_A => [0x7F]
  -- R112
  | .ld_B_mHL => [0x46]
  | .ld_C_mHL => [0x4E]
  | .ld_D_mHL => [0x56]
  | .ld_E_mHL => [0x5E]
  | .ld_H_mHL => [0x66]
  | .ld_L_mHL => [0x6E]
  | .ld_A_mHL => [0x7E]
  -- R113
  | .ld_mHL_B => [0x70]
  | .ld_mHL_C => [0x71]
  | .ld_mHL_D => [0x72]
  | .ld_mHL_E => [0x73]
  | .ld_mHL_H => [0x74]
  | .ld_mHL_L => [0x75]
  | .ld_mHL_A => [0x77]
  -- R114
  | .ld_A_mBC => [0x0A]
  -- R115
  | .ld_A_mDE => [0x1A]
  -- R116
  | .ld_mBC_A => [0x02]
  -- R117
  | .ld_mDE_A => [0x12]
  -- R118
  | .ld_B_d8 d8 => [0x06, d8]
  | .ld_C_d8 d8 => [0x0E, d8]
  | .ld_D_d8 d8 => [0x16, d8]
  | .ld_E_d8 d8 => [0x1E, d8]
  | .ld_H_d8 d8 => [0x26, d8]
  | .ld_L_d8 d8 => [0x2E, d8]
  | .ld_A_d8 d8 => [0x3E, d8]
  -- R119
  | .ld_mHL_d8 d8 => [0x36, d8]
  -- R120
  | .ld_BC_d16 d16 => [0x01, loByte d16, hiByte d16]
  | .ld_DE_d16 d16 => [0x11, loByte d16, hiByte d16]
  | .ld_HL_d16 d16 => [0x21, loByte d16, hiByte d16]
  | .ld_SP_d16 d16 => [0x31, loByte d16, hiByte d16]
  -- R121
  | .ld_ma16_A a16 => [0xEA, loByte a16, hiByte a16]
  -- R122
  | .ld_A_ma16 a16 => [0xFA, loByte a16, hiByte a16]
  -- R123
  | .ldh_ma8_A a8 => [0xE0, a8]
  -- R124
  | .ldh_A_ma8 a8 => [0xF0, a8]
  -- R125
  | .ld_mC_A => [0xE2]
  -- R126
  | .ld_A_mC => [0xF2]
  -- R127
  | .ldi_mHL_A => [0x22]
  -- R128
  | .ldi_A_mHL => [0x2A]
  -- R129
  | .ldd_mHL_A => [0x32]
  -- R130
  | .ldd_A_mHL => [0x3A]
  -- R131
  | .ld_ma16_SP a16 => [0x08, loByte a16, hiByte a16]
  -- R153
  | .add_A_B => [0x80]
  | .add_A_C => [0x81]
  | .add_A_D => [0x82]
  | .add_A_E => [0x83]
  | .add_A_H => [0x84]
  | .add_A_L => [0x85]
  | .add_A_A => [0x87]
  -- R154
  | .add_A_mHL => [0x86]
  -- R155
  | .add_A_d8 d8 => [0xC6, d8]
  -- R156
  | .adc_A_B => [0x88]
  | .adc_A_C => [0x89]
  | .adc_A_D => [0x8A]
  | .adc_A_E => [0x8B]
  | .adc_A_H => [0x8C]
  | .adc_A_L => [0x8D]
  | .adc_A_A => [0x8F]
  -- R157
  | .adc_A_mHL => [0x8E]
  -- R158
  | .adc_A_d8 d8 => [0xCE, d8]
  -- R159
  | .sub_B => [0x90]
  | .sub_C => [0x91]
  | .sub_D => [0x92]
  | .sub_E => [0x93]
  | .sub_H => [0x94]
  | .sub_L => [0x95]
  | .sub_A => [0x97]
  -- R160
  | .sub_mHL => [0x96]
  -- R161
  | .sub_d8 d8 => [0xD6, d8]
  -- R162
  | .inc_B => [0x04]
  | .inc_C => [0x0C]
  | .inc_D => [0x14]
  | .inc_E => [0x1C]
  | .inc_H => [0x24]
  | .inc_L => [0x2C]
  | .inc_A => [0x3C]
  -- R163
  | .inc_mHL => [0x34]
  -- R164
  | .dec_B => [0x05]
  | .dec_C => [0x0D]
  | .dec_D => [0x15]
  | .dec_E => [0x1D]
  | .dec_H => [0x25]
  | .dec_L => [0x2D]
  | .dec_A => [0x3D]
  -- R165
  | .dec_mHL => [0x35]
  -- R166
  | .inc_BC => [0x03]
  | .inc_DE => [0x13]
  | .inc_HL => [0x23]
  | .inc_SP => [0x33]
  -- R167
  | .dec_BC => [0x0B]
  | .dec_DE => [0x1B]
  | .dec_HL => [0x2B]
  | .dec_SP => [0x3B]
  -- R168
  | .add_HL_BC => [0x09]
  | .add_HL_DE => [0x19]
  | .add_HL_HL => [0x29]
  | .add_HL_SP => [0x39]
  -- R170
  | .add_SP_e8 e8 => [0xE8, e8]
  -- R171
  | .ldhl_SP_e8 e8 => [0xF8, e8]
  -- R180
  | .and_B => [0xA0]
  | .and_C => [0xA1]
  | .and_D => [0xA2]
  | .and_E => [0xA3]
  | .and_H => [0xA4]
  | .and_L => [0xA5]
  | .and_A => [0xA7]
  -- R181
  | .and_mHL => [0xA6]
  -- R182
  | .and_d8 d8 => [0xE6, d8]
  -- R183
  | .xor_B => [0xA8]
  | .xor_C => [0xA9]
  | .xor_D => [0xAA]
  | .xor_E => [0xAB]
  | .xor_H => [0xAC]
  | .xor_L => [0xAD]
  | .xor_A => [0xAF]
  -- R184
  | .xor_mHL => [0xAE]
  -- R185
  | .xor_d8 d8 => [0xEE, d8]
  -- R186
  | .or_B => [0xB0]
  | .or_C => [0xB1]
  | .or_D => [0xB2]
  | .or_E => [0xB3]
  | .or_H => [0xB4]
  | .or_L => [0xB5]
  | .or_A => [0xB7]
  -- R187
  | .or_mHL => [0xB6]
  -- R188
  | .or_d8 d8 => [0xF6, d8]
  -- R189
  | .cp_B => [0xB8]
  | .cp_C => [0xB9]
  | .cp_D => [0xBA]
  | .cp_E => [0xBB]
  | .cp_H => [0xBC]
  | .cp_L => [0xBD]
  | .cp_A => [0xBF]
  -- R190
  | .cp_mHL => [0xBE]
  -- R191
  | .cp_d8 d8 => [0xFE, d8]
  -- R196
  | .jp_a16 a16 => [0xC3, loByte a16, hiByte a16]
  -- R197
  | .jp_NZ_a16 a16 => [0xC2, loByte a16, hiByte a16]
  | .jp_Z_a16 a16 => [0xCA, loByte a16, hiByte a16]
  | .jp_NC_a16 a16 => [0xD2, loByte a16, hiByte a16]
  | .jp_C_a16 a16 => [0xDA, loByte a16, hiByte a16]
  -- R198
  | .jr_e8 e8 => [0x18, e8]
  -- R199
  | .jr_NZ_e8 e8 => [0x20, e8]
  | .jr_Z_e8 e8 => [0x28, e8]
  | .jr_NC_e8 e8 => [0x30, e8]
  | .jr_C_e8 e8 => [0x38, e8]
  -- R200
  | .call_a16 a16 => [0xCD, loByte a16, hiByte a16]
  -- R201
  | .call_NZ_a16 a16 => [0xC4, loByte a16, hiByte a16]
  | .call_Z_a16 a16 => [0xCC, loByte a16, hiByte a16]
  | .call_NC_a16 a16 => [0xD4, loByte a16, hiByte a16]
  | .call_C_a16 a16 => [0xDC, loByte a16, hiByte a16]
  -- R202
  | .ret => [0xC9]
  -- R203
  | .ret_NZ => [0xC0]
  | .ret_Z => [0xC8]
  | .ret_NC => [0xD0]
  | .ret_C => [0xD8]
  -- R204
  | .rst_0x00 => [0xC7]
  | .rst_0x08 => [0xCF]
  | .rst_0x10 => [0xD7]
  | .rst_0x18 => [0xDF]
  | .rst_0x20 => [0xE7]
  | .rst_0x28 => [0xEF]
  | .rst_0x30 => [0xF7]
  | .rst_0x38 => [0xFF]
  -- R210
  | .rlca => [0x07]
  -- R211
  | .rrca => [0x0F]
  -- R215, R216, R217
  | .undefined op => [op]
  | .unknown op => [op]
  | .prefixCB b1 => [0xCB, b1]

/-! ## The regular forms (R83)

Each function names the instructions of one pattern of R83 by the pattern's fields, so that a rule
about all of them can be stated once. -/

/-- The operand code of an 8-bit register (R84). -/
def codeOfReg8 : Reg8 → Byte
  | .B => 0
  | .C => 1
  | .D => 2
  | .E => 3
  | .H => 4
  | .L => 5
  | .A => 7

/-- The operand code of a 16-bit register (R85). -/
def codeOfReg16 : Reg16 → Byte
  | .BC => 0
  | .DE => 1
  | .HL => 2
  | .SP => 3

/-- The code of a condition (R89). -/
def codeOfCond : Cond → Byte
  | .NZ => 0
  | .Z => 1
  | .NC => 2
  | .C => 3

/-- The code of an ALU operation, the field `ooo` (R83); 3 is not implemented. -/
def codeOfAluOp : AluOp → Byte
  | .add => 0
  | .adc => 1
  | .sub => 2
  | .and => 4
  | .xor => 5
  | .or => 6
  | .cp => 7

/-- LD r,r' (R111), pattern `01 ddd sss`: destination first. -/
def Instr.ldRegReg : Reg8 → Reg8 → Instr
  | .B, .B => .ld_B_B
  | .B, .C => .ld_B_C
  | .B, .D => .ld_B_D
  | .B, .E => .ld_B_E
  | .B, .H => .ld_B_H
  | .B, .L => .ld_B_L
  | .B, .A => .ld_B_A
  | .C, .B => .ld_C_B
  | .C, .C => .ld_C_C
  | .C, .D => .ld_C_D
  | .C, .E => .ld_C_E
  | .C, .H => .ld_C_H
  | .C, .L => .ld_C_L
  | .C, .A => .ld_C_A
  | .D, .B => .ld_D_B
  | .D, .C => .ld_D_C
  | .D, .D => .ld_D_D
  | .D, .E => .ld_D_E
  | .D, .H => .ld_D_H
  | .D, .L => .ld_D_L
  | .D, .A => .ld_D_A
  | .E, .B => .ld_E_B
  | .E, .C => .ld_E_C
  | .E, .D => .ld_E_D
  | .E, .E => .ld_E_E
  | .E, .H => .ld_E_H
  | .E, .L => .ld_E_L
  | .E, .A => .ld_E_A
  | .H, .B => .ld_H_B
  | .H, .C => .ld_H_C
  | .H, .D => .ld_H_D
  | .H, .E => .ld_H_E
  | .H, .H => .ld_H_H
  | .H, .L => .ld_H_L
  | .H, .A => .ld_H_A
  | .L, .B => .ld_L_B
  | .L, .C => .ld_L_C
  | .L, .D => .ld_L_D
  | .L, .E => .ld_L_E
  | .L, .H => .ld_L_H
  | .L, .L => .ld_L_L
  | .L, .A => .ld_L_A
  | .A, .B => .ld_A_B
  | .A, .C => .ld_A_C
  | .A, .D => .ld_A_D
  | .A, .E => .ld_A_E
  | .A, .H => .ld_A_H
  | .A, .L => .ld_A_L
  | .A, .A => .ld_A_A

/-- LD r,(HL) (R112), pattern `01 ddd 110`. -/
def Instr.ldRegMem : Reg8 → Instr
  | .B => .ld_B_mHL
  | .C => .ld_C_mHL
  | .D => .ld_D_mHL
  | .E => .ld_E_mHL
  | .H => .ld_H_mHL
  | .L => .ld_L_mHL
  | .A => .ld_A_mHL

/-- LD (HL),r (R113), pattern `01 110 sss`. -/
def Instr.ldMemReg : Reg8 → Instr
  | .B => .ld_mHL_B
  | .C => .ld_mHL_C
  | .D => .ld_mHL_D
  | .E => .ld_mHL_E
  | .H => .ld_mHL_H
  | .L => .ld_mHL_L
  | .A => .ld_mHL_A

/-- LD r,d8 (R118), pattern `00 rrr 110`. -/
def Instr.ldRegImm (r : Reg8) (d8 : Byte) : Instr :=
  match r with
  | .B => .ld_B_d8 d8
  | .C => .ld_C_d8 d8
  | .D => .ld_D_d8 d8
  | .E => .ld_E_d8 d8
  | .H => .ld_H_d8 d8
  | .L => .ld_L_d8 d8
  | .A => .ld_A_d8 d8

/-- LD rr,d16 (R120), pattern `00 pp0 001`. -/
def Instr.ldPairImm (p : Reg16) (d16 : Word) : Instr :=
  match p with
  | .BC => .ld_BC_d16 d16
  | .DE => .ld_DE_d16 d16
  | .HL => .ld_HL_d16 d16
  | .SP => .ld_SP_d16 d16

/-- The ALU operation `ooo` on A and its operand, patterns `10 ooo sss` and `11 ooo 110` (R153 to R161,
R180 to R191). -/
def Instr.alu : AluOp → AluSrc → Instr
  | .add, .reg .B => .add_A_B
  | .add, .reg .C => .add_A_C
  | .add, .reg .D => .add_A_D
  | .add, .reg .E => .add_A_E
  | .add, .reg .H => .add_A_H
  | .add, .reg .L => .add_A_L
  | .add, .reg .A => .add_A_A
  | .add, .atHL => .add_A_mHL
  | .add, .imm d8 => .add_A_d8 d8
  | .adc, .reg .B => .adc_A_B
  | .adc, .reg .C => .adc_A_C
  | .adc, .reg .D => .adc_A_D
  | .adc, .reg .E => .adc_A_E
  | .adc, .reg .H => .adc_A_H
  | .adc, .reg .L => .adc_A_L
  | .adc, .reg .A => .adc_A_A
  | .adc, .atHL => .adc_A_mHL
  | .adc, .imm d8 => .adc_A_d8 d8
  | .sub, .reg .B => .sub_B
  | .sub, .reg .C => .sub_C
  | .sub, .reg .D => .sub_D
  | .sub, .reg .E => .sub_E
  | .sub, .reg .H => .sub_H
  | .sub, .reg .L => .sub_L
  | .sub, .reg .A => .sub_A
  | .sub, .atHL => .sub_mHL
  | .sub, .imm d8 => .sub_d8 d8
  | .and, .reg .B => .and_B
  | .and, .reg .C => .and_C
  | .and, .reg .D => .and_D
  | .and, .reg .E => .and_E
  | .and, .reg .H => .and_H
  | .and, .reg .L => .and_L
  | .and, .reg .A => .and_A
  | .and, .atHL => .and_mHL
  | .and, .imm d8 => .and_d8 d8
  | .xor, .reg .B => .xor_B
  | .xor, .reg .C => .xor_C
  | .xor, .reg .D => .xor_D
  | .xor, .reg .E => .xor_E
  | .xor, .reg .H => .xor_H
  | .xor, .reg .L => .xor_L
  | .xor, .reg .A => .xor_A
  | .xor, .atHL => .xor_mHL
  | .xor, .imm d8 => .xor_d8 d8
  | .or, .reg .B => .or_B
  | .or, .reg .C => .or_C
  | .or, .reg .D => .or_D
  | .or, .reg .E => .or_E
  | .or, .reg .H => .or_H
  | .or, .reg .L => .or_L
  | .or, .reg .A => .or_A
  | .or, .atHL => .or_mHL
  | .or, .imm d8 => .or_d8 d8
  | .cp, .reg .B => .cp_B
  | .cp, .reg .C => .cp_C
  | .cp, .reg .D => .cp_D
  | .cp, .reg .E => .cp_E
  | .cp, .reg .H => .cp_H
  | .cp, .reg .L => .cp_L
  | .cp, .reg .A => .cp_A
  | .cp, .atHL => .cp_mHL
  | .cp, .imm d8 => .cp_d8 d8

/-- INC r (R162), pattern `00 rrr 100`. -/
def Instr.incReg : Reg8 → Instr
  | .B => .inc_B
  | .C => .inc_C
  | .D => .inc_D
  | .E => .inc_E
  | .H => .inc_H
  | .L => .inc_L
  | .A => .inc_A

/-- DEC r (R164), pattern `00 rrr 101`. -/
def Instr.decReg : Reg8 → Instr
  | .B => .dec_B
  | .C => .dec_C
  | .D => .dec_D
  | .E => .dec_E
  | .H => .dec_H
  | .L => .dec_L
  | .A => .dec_A

/-- INC rr (R166), pattern `00 pp0 011`. -/
def Instr.incReg16 : Reg16 → Instr
  | .BC => .inc_BC
  | .DE => .inc_DE
  | .HL => .inc_HL
  | .SP => .inc_SP

/-- DEC rr (R167), pattern `00 pp1 011`. -/
def Instr.decReg16 : Reg16 → Instr
  | .BC => .dec_BC
  | .DE => .dec_DE
  | .HL => .dec_HL
  | .SP => .dec_SP

/-- ADD HL,rr (R168), pattern `00 pp1 001`. -/
def Instr.addHl : Reg16 → Instr
  | .BC => .add_HL_BC
  | .DE => .add_HL_DE
  | .HL => .add_HL_HL
  | .SP => .add_HL_SP

/-- JP cc,a16 (R197), pattern `11 0cc 010`. -/
def Instr.jpCond (cc : Cond) (a16 : Word) : Instr :=
  match cc with
  | .NZ => .jp_NZ_a16 a16
  | .Z => .jp_Z_a16 a16
  | .NC => .jp_NC_a16 a16
  | .C => .jp_C_a16 a16

/-- JR cc,e8 (R199), pattern `00 1cc 000`. -/
def Instr.jrCond (cc : Cond) (e8 : Byte) : Instr :=
  match cc with
  | .NZ => .jr_NZ_e8 e8
  | .Z => .jr_Z_e8 e8
  | .NC => .jr_NC_e8 e8
  | .C => .jr_C_e8 e8

/-- CALL cc,a16 (R201), pattern `11 0cc 100`. -/
def Instr.callCond (cc : Cond) (a16 : Word) : Instr :=
  match cc with
  | .NZ => .call_NZ_a16 a16
  | .Z => .call_Z_a16 a16
  | .NC => .call_NC_a16 a16
  | .C => .call_C_a16 a16

/-- RET cc (R203), pattern `11 0cc 000`. -/
def Instr.retCond : Cond → Instr
  | .NZ => .ret_NZ
  | .Z => .ret_Z
  | .NC => .ret_NC
  | .C => .ret_C

/-- RST (R204), pattern `11 ttt 111`; the argument is the field `ttt`. -/
def Instr.rst : Fin 8 → Instr
  | 0 => .rst_0x00
  | 1 => .rst_0x08
  | 2 => .rst_0x10
  | 3 => .rst_0x18
  | 4 => .rst_0x20
  | 5 => .rst_0x28
  | 6 => .rst_0x30
  | 7 => .rst_0x38

end Sys2Proof
end

