-- ==== Sys2Proof/Machine/Fetch.lean ====
section
/-! DEFINITION. Fetching an instruction (spec/20_memory.md R63, R73; spec/30_encoding.md R92): its bytes
are read from increasing addresses at PC, wrapping past 0xFFFF (spec/10_state.md R34), from the same
memory as data, and all of them before the instruction writes anything (D22). -/

namespace Sys2Proof.Machine

/-- The `n` bytes from `adr` up, each address wrapping. -/
def State.bytesFrom (s : State) (adr : Word) : Nat → List Byte
  | 0 => []
  | n + 1 => s.read8 adr :: State.bytesFrom s (adr + 1) n

/-- The instruction at PC: the opcode byte, then the operand bytes its format has (R63, R92). A byte
the format does not have is not part of the result, so looking it up is not observable (log
entry 15). -/
def State.fetch (s : State) : Instr :=
  decodeBytes (s.read8 s.pc) (s.read8 (s.pc + 1)) (s.read8 (s.pc + 2))

/-- Stores bytes from `adr` up, each address wrapping. -/
def State.storeBytesFrom (s : State) (adr : Word) : List Byte → State
  | [] => s
  | v :: rest => State.storeBytesFrom (s.write8 adr v) (adr + 1) rest

end Sys2Proof.Machine
end

