-- ==== Sys2Proof/Machine/Step.lean ====
section
/-! DEFINITION. The step, `tick` (spec/70_reset_and_hazards.md R269): on a state whose fault latch is
clear it runs the one instruction at PC; on a latched state it is refused (spec/60_exceptions.md
R232). -/

namespace Sys2Proof.Machine

/-- One `tick` (R269). The meaning moves PC itself, so nothing is added around `exec`. -/
def step (s : State) : Host.Outcome State Fault Refusal :=
  match s.fault with
  | some r => .refused (.faultLatched r.opcode r.addr)
  | none => exec s.fetch s

/-- `s` with a table word's instruction stored where `step` fetches next: at PC, PC + 1 and PC + 2.
Nothing else changes, the fault latch included (log entry 16). -/
def State.withFetchWord (s : State) (nbits w : Nat) : State :=
  s.storeBytesFrom s.pc (tableWordBytes nbits w)

end Sys2Proof.Machine
end

