-- ==== Sys2Proof/Machine/HostOps.lean ====
section
/-! DEFINITION. The operations of the host, each an atomic transformation of the state between two
steps (spec/70_reset_and_hazards.md R261 to R273). A call that breaks a requirement is refused and
changes nothing (R264, U6). -/

namespace Sys2Proof.Machine

/-! ## Reset in two stages (R260) -/

/-- `new()` (R262): every register 0, every byte of memory 0x00, the latch clear. -/
def hostNew : State where
  a := 0x00
  f := 0x00
  b := 0x00
  c := 0x00
  d := 0x00
  e := 0x00
  h := 0x00
  l := 0x00
  sp := 0x0000
  pc := 0x0000
  mem := []
  fault := none

/-- `init()` (R263): the power-on values; memory and the latch are not written. -/
def hostInit (s : State) : State :=
  { s with a := 0x01, f := 0xB0, b := 0x00, c := 0x13, d := 0x00, e := 0xD8, h := 0x01, l := 0x4D,
           pc := 0x0100, sp := 0xFFFE }

/-- The state at the first step when the host has loaded `initialMemory`, the open parameter
`INITIAL_MEMORY` (R7, R266, R267; log entry 3). -/
def launch (initialMemory : Memory) : State := { State.reset with mem := initialMemory }

/-! ## Memory (R264) -/

/-- `set_mem(addr, byte)`. -/
def setMem (adr : Nat) (v : Byte) (s : State) : Result :=
  if adr ≤ 0xFFFF then .next { s with mem := Memory.write s.mem adr v } else .refused .hostAddress

/-- `get_mem_range(i, j)`: the bytes at `i` to `j`, both included; the state does not change. -/
def getMemRange (i j : Nat) (s : State) : Except Refusal (List Byte) :=
  if i ≤ j ∧ j ≤ 0xFFFF then .ok (Memory.readRange s.mem i (j - i + 1)) else .error .hostRange

/-- `set_mem_range(i, j, data)`. -/
def setMemRange (i j : Nat) (data : List Byte) (s : State) : Result :=
  if i ≤ j ∧ j ≤ 0xFFFF then
    if data.length = j - i + 1 then .next { s with mem := Memory.writeRange s.mem i data }
    else .refused .hostDataLength
  else .refused .hostRange

/-! ## Snapshot and restore (R265) -/

/-- `clone()`: a value equal to the whole state, the latch included (D27). -/
def hostClone (s : State) : State := s

/-- `load_from(other)`: the whole state is replaced. -/
def loadFrom (other : State) (_ : State) : State := other

/-! ## `tick` as the host sees it (R269) -/

/-- What `tick` returns. -/
inductive TickResult where
  /-- success and the next state -/
  | success (t : State)
  /-- the error with its record, and the same state with the latch set -/
  | error (record : FaultRecord) (t : State)
  /-- no step exists -/
  | refused (r : Refusal)
  deriving DecidableEq, Repr

/-- `tick()` (R269): the error is the latch the step set (R230). -/
def tick (s : State) : TickResult :=
  match step s with
  | .next t =>
    match t.fault with
    | none => .success t
    | some r => .error r t
  | .fault r => nomatch r
  | .refused r => .refused r

/-! ## Runs as lists of events (R268, R272)

Every host write is an explicit event between two steps. A use outside the launch premises (a tick
before `init`, a second `init`) has the plain meaning of the operations (D17; log entry 13). -/

/-- What can happen to the core: a step, or one of the host's operations that change the state. -/
inductive Event where
  | new
  | init
  | setMem (adr : Nat) (v : Byte)
  | setMemRange (i j : Nat) (data : List Byte)
  | loadFrom (other : State)
  | tick
  deriving DecidableEq, Repr

/-- One event. -/
def applyEvent (ev : Event) (s : State) : Result :=
  match ev with
  | .new => .next hostNew
  | .init => .next (hostInit s)
  | .setMem adr v => setMem adr v s
  | .setMemRange i j data => setMemRange i j data s
  | .loadFrom other => .next (loadFrom other s)
  | .tick => step s

/-- A sequence of events, stopping at the first that is refused. -/
def applyEvents : List Event → State → Result
  | [], s => .next s
  | ev :: rest, s =>
    match applyEvent ev s with
    | .next t => applyEvents rest t
    | .fault r => nomatch r
    | .refused r => .refused r

end Sys2Proof.Machine
end

