-- ==== Sys2Proof/Safety.lean ====
section
/-! DEFINITION. What counts as a safe run, a finished state and a reachable state
(spec/60_exceptions.md R232; spec/70_reset_and_hazards.md R271, R273). -/

namespace Sys2Proof.Machine

/-- The core can take a step: its latch is clear. "A faulted state is never a final (successfully
ended) state" (R232). -/
def State.Live (s : State) : Prop := s.fault = none

/-- The conventional end of a program: the latch is clear and the next instruction jumps to itself,
JR with `e8 = 0xFE` or JP to its own address (R271, D25; log entry 19). -/
def State.Finished (s : State) : Prop :=
  s.Live ∧ (s.fetch = .jr_e8 0xFE ∨ s.fetch = .jp_a16 s.pc)

/-- The states of runs that meet the launch premises (R273): from reset with any loaded memory, by
steps and by host writes between them (R268). -/
inductive Reachable : State → Prop where
  | launched (m : Memory) (canonical : m.wf = true) : Reachable (launch m)
  | ticked {s t : State} (before : Reachable s) (next : step s = .next t) : Reachable t
  | written {s t : State} (adr : Nat) (v : Byte) (before : Reachable s)
      (next : setMem adr v s = .next t) : Reachable t

/-- A run of the host's events that is accepted throughout and ends in a live state. -/
def SafeRun (events : List Event) (s : State) : Prop :=
  ∃ t, applyEvents events s = .next t ∧ t.Live

/-- The invariant of the reachable states: memory is in its canonical form, and the unused low nibble
of F is 0 (R28). -/
def State.Inv (s : State) : Prop := s.mem.wf = true ∧ s.f &&& 0x0F#8 = 0x00#8

end Sys2Proof.Machine
end

