-- ==== Sys2Proof/Certificates/Slice0/Obligations.lean ====
section
/-! DEFINITION. The statements for the provers, each from the spec rule its docstring names. "Derived"
in a docstring means the clause rests on a decision or an inference the spec marks as its own, and
names it. -/

namespace Sys2Proof.Claims

open Sys2Proof.Machine

/-! ## The words the statements share -/

/-- Every 8-bit register outside `dst` keeps its value. -/
def RegsKept (s t : State) (dst : List Reg8) : Prop := ∀ r, r ∉ dst → t.reg r = s.reg r

/-- Every byte of memory outside `stored` reads as before. -/
def MemKept (s t : State) (stored : List Word) : Prop := ∀ q : Word, q ∉ stored → t.read8 q = s.read8 q

/-- The frame of an instruction: registers outside `dst`, bytes outside `stored` and the fault latch. -/
def Frame (s t : State) (dst : List Reg8) (stored : List Word) : Prop :=
  RegsKept s t dst ∧ MemKept s t stored ∧ t.fault = s.fault

/-- The four flags have these values, and the low nibble of F is as it was. -/
def FlagsAre (s t : State) (z n h c : Bool) : Prop :=
  t.flag .Z = z ∧ t.flag .N = n ∧ t.flag .H = h ∧ t.flag .C = c ∧ t.f &&& 0x0F#8 = s.f &&& 0x0F#8

/-- `x[d] <- MemRead(adr, 1)`, and the frame. -/
def LoadsByte (i : Instr) (s : State) (d : Reg8) (adr len : Word) : Prop :=
  ∃ t, exec i s = .next t ∧ t.reg d = s.read8 adr ∧ Frame s t [d] [] ∧ t.f = s.f ∧ t.sp = s.sp
    ∧ t.pc = s.pc + len

/-- `MemWrite(adr, 1, v)`, and the frame. The byte reads back in a canonical memory. -/
def StoresByte (i : Instr) (s : State) (adr : Word) (v : Byte) (len : Word) : Prop :=
  ∃ t, exec i s = .next t ∧ (s.mem.wf = true → t.read8 adr = v) ∧ Frame s t [] [adr] ∧ t.f = s.f
    ∧ t.sp = s.sp ∧ t.pc = s.pc + len

/-- An ALU operation: the new A, the four flags, and the frame. -/
def AluGives (i : Instr) (s : State) (result : Byte) (z n h c : Bool) (len : Word) : Prop :=
  ∃ t, exec i s = .next t ∧ t.a = result ∧ FlagsAre s t z n h c ∧ Frame s t [.A] [] ∧ t.sp = s.sp
    ∧ t.pc = s.pc + len

/-- PC goes to `target` and nothing else changes. -/
def OnlyMovesPc (i : Instr) (s : State) (target : Word) : Prop :=
  ∃ t, exec i s = .next t ∧ t.pc = target ∧ Frame s t [] [] ∧ t.f = s.f ∧ t.sp = s.sp

/-- `push16(ret); PC <- target`: the two stored bytes are at SP and SP - 1. -/
def CallsTo (i : Instr) (s : State) (ret target : Word) : Prop :=
  ∃ t, exec i s = .next t ∧ t.pc = target ∧ t.sp = s.sp - 2
    ∧ (s.mem.wf = true → t.read8 s.sp = hiByte ret ∧ t.read8 (s.sp - 1) = loByte ret)
    ∧ Frame s t [] [s.sp, s.sp - 1] ∧ t.f = s.f

/-- `PC <- pop16()`: memory is not changed. -/
def Returns (i : Instr) (s : State) : Prop :=
  ∃ t, exec i s = .next t ∧ t.pc = joinBytes (s.read8 (s.sp + 2)) (s.read8 (s.sp + 1))
    ∧ t.sp = s.sp + 2 ∧ Frame s t [] [] ∧ t.f = s.f

/-- A condition by the flag it tests (R195). -/
def Holds (s : State) : Cond → Prop
  | .NZ => s.flag .Z = false
  | .Z => s.flag .Z = true
  | .NC => s.flag .C = false
  | .C => s.flag .C = true

/-- The addresses an instruction stores to (R65), each by the expression its rule gives. -/
def storedBy (s : State) : Instr → List Word
  | .ld_mHL_B | .ld_mHL_C | .ld_mHL_D | .ld_mHL_E | .ld_mHL_H | .ld_mHL_L | .ld_mHL_A
  | .ld_mHL_d8 _ | .ldi_mHL_A | .ldd_mHL_A | .inc_mHL | .dec_mHL => [s.pair .HL]
  | .ld_mBC_A => [s.pair .BC]
  | .ld_mDE_A => [s.pair .DE]
  | .ld_ma16_A a16 => [a16]
  | .ldh_ma8_A a8 => [highPage a8]
  | .ld_mC_A => [highPage s.c]
  | .ld_ma16_SP a16 => [a16, a16 + 1]
  | .call_a16 _ | .rst_0x00 | .rst_0x08 | .rst_0x10 | .rst_0x18 | .rst_0x20 | .rst_0x28
  | .rst_0x30 | .rst_0x38 => [s.sp, s.sp - 1]
  | .call_NZ_a16 _ => if s.flag .Z then [] else [s.sp, s.sp - 1]
  | .call_Z_a16 _ => if s.flag .Z then [s.sp, s.sp - 1] else []
  | .call_NC_a16 _ => if s.flag .C then [] else [s.sp, s.sp - 1]
  | .call_C_a16 _ => if s.flag .C then [s.sp, s.sp - 1] else []
  | _ => []

/-- JP, JR, CALL, RET and RST in all their forms. -/
def isControlFlow : Instr → Bool
  | .jp_a16 _ | .jp_NZ_a16 _ | .jp_Z_a16 _ | .jp_NC_a16 _ | .jp_C_a16 _
  | .jr_e8 _ | .jr_NZ_e8 _ | .jr_Z_e8 _ | .jr_NC_e8 _ | .jr_C_e8 _
  | .call_a16 _ | .call_NZ_a16 _ | .call_Z_a16 _ | .call_NC_a16 _ | .call_C_a16 _
  | .ret | .ret_NZ | .ret_Z | .ret_NC | .ret_C
  | .rst_0x00 | .rst_0x08 | .rst_0x10 | .rst_0x18 | .rst_0x20 | .rst_0x28 | .rst_0x30
  | .rst_0x38 => true
  | _ => false

/-- The instructions that select no implemented instruction (R215 to R217). -/
def isUnimplemented : Instr → Bool
  | .unknown _ | .undefined _ | .prefixCB _ => true
  | _ => false

/-- The instructions of the arithmetic, logic and rotate families that write at least one flag (R29). -/
def writesFlags : Instr → Bool
  | .inc_B | .dec_B | .rlca | .add_HL_BC | .inc_C | .dec_C | .rrca | .inc_D | .dec_D | .add_HL_DE
  | .inc_E | .dec_E | .inc_H | .dec_H | .add_HL_HL | .inc_L | .dec_L | .inc_mHL | .dec_mHL
  | .add_HL_SP | .inc_A | .dec_A | .add_A_B | .add_A_C | .add_A_D | .add_A_E | .add_A_H | .add_A_L
  | .add_A_mHL | .add_A_A | .adc_A_B | .adc_A_C | .adc_A_D | .adc_A_E | .adc_A_H | .adc_A_L
  | .adc_A_mHL | .adc_A_A | .sub_B | .sub_C | .sub_D | .sub_E | .sub_H | .sub_L | .sub_mHL | .sub_A
  | .and_B | .and_C | .and_D | .and_E | .and_H | .and_L | .and_mHL | .and_A | .xor_B | .xor_C
  | .xor_D | .xor_E | .xor_H | .xor_L | .xor_mHL | .xor_A | .or_B | .or_C | .or_D | .or_E | .or_H
  | .or_L | .or_mHL | .or_A | .cp_B | .cp_C | .cp_D | .cp_E | .cp_H | .cp_L | .cp_mHL | .cp_A
  | .add_A_d8 _ | .adc_A_d8 _ | .sub_d8 _ | .and_d8 _ | .add_SP_e8 _ | .xor_d8 _ | .or_d8 _
  | .ldhl_SP_e8 _ | .cp_d8 _ => true
  | _ => false

/-- The instructions that write SP (R31): LD, INC, DEC and ADD on SP, CALL, RST and RET. -/
def writesSp : Instr → Bool
  | .ld_SP_d16 _ | .inc_SP | .dec_SP | .ret_NZ | .call_NZ_a16 _ | .rst_0x00 | .ret_Z | .ret
  | .call_Z_a16 _ | .call_a16 _ | .rst_0x08 | .ret_NC | .call_NC_a16 _ | .rst_0x10 | .ret_C
  | .call_C_a16 _ | .rst_0x18 | .rst_0x20 | .add_SP_e8 _ | .rst_0x28 | .rst_0x30 | .rst_0x38 => true
  | _ => false

end Sys2Proof.Claims

open Sys2Proof Sys2Proof.Machine Sys2Proof.Claims

/-! ## State, reset and the host -/

/-- R263: `init`, on any state, loads the power-on values and writes neither memory nor the latch. -/
def Obligations.InitLoadsPowerOnValues : Prop :=
  ∀ s : State, (hostInit s).pair .AF = 0x01B0 ∧ (hostInit s).pair .BC = 0x0013
    ∧ (hostInit s).pair .DE = 0x00D8 ∧ (hostInit s).pair .HL = 0x014D
    ∧ (hostInit s).pc = 0x0100 ∧ (hostInit s).sp = 0xFFFE
    ∧ MemKept s (hostInit s) [] ∧ (hostInit s).fault = s.fault

/-- R260, R262: reset is `new` then `init`; `new` zeroes every register and every byte of memory. That it
clears the latch is the spec's decision D12: derived. -/
def Obligations.ResetIsNewThenInit : Prop :=
  State.reset = hostInit hostNew ∧ (∀ r, hostNew.reg r = 0) ∧ hostNew.f = 0 ∧ hostNew.sp = 0
    ∧ hostNew.pc = 0 ∧ (∀ q, hostNew.read8 q = 0) ∧ hostNew.fault = none

/-- R22: a pair is the 16-bit view `high * 256 + low` of its two registers; writing it sets the high
register to `n[15:8]` and the low one to `n[7:0]`, nothing masked, and changes nothing else. -/
def Obligations.PairIsTwoRegisters : Prop :=
  ∀ (s : State) (n : Word),
    ((s.pair .AF).toNat = s.a.toNat * 256 + s.f.toNat
      ∧ (s.pair .BC).toNat = s.b.toNat * 256 + s.c.toNat
      ∧ (s.pair .DE).toNat = s.d.toNat * 256 + s.e.toNat
      ∧ (s.pair .HL).toNat = s.h.toNat * 256 + s.l.toNat)
    ∧ (∀ p, (s.setPair p n).pair p = n)
    ∧ s.setPair .AF n = { s with a := n.extractLsb' 8 8, f := n.extractLsb' 0 8 }
    ∧ s.setPair .BC n = { s with b := n.extractLsb' 8 8, c := n.extractLsb' 0 8 }
    ∧ s.setPair .DE n = { s with d := n.extractLsb' 8 8, e := n.extractLsb' 0 8 }
    ∧ s.setPair .HL n = { s with h := n.extractLsb' 8 8, l := n.extractLsb' 0 8 }

/-- R27: `flag`, `set_flag_to`, `set_flag`, `reset_flag`, each on its own bit of F only. Z, N, H, C are bits 7,
6, 5, 4 (R26). -/
def Obligations.FlagPrimitivesTouchOneBit : Prop :=
  ∀ (s : State) (x : Flag) (v : Bool),
    (s.flag .Z = s.f.getLsbD 7 ∧ s.flag .N = s.f.getLsbD 6 ∧ s.flag .H = s.f.getLsbD 5
      ∧ s.flag .C = s.f.getLsbD 4)
    ∧ (s.setFlagTo x v).flag x = v
    ∧ (∀ k, k ≠ flagBit x → (s.setFlagTo x v).f.getLsbD k = s.f.getLsbD k)
    ∧ { s.setFlagTo x v with f := s.f } = s
    ∧ s.setFlag x = s.setFlagTo x true ∧ s.resetFlag x = s.setFlagTo x false

/-- R264: the three host memory operations, their effects and their refusals. Ranges do not wrap. -/
def Obligations.HostMemoryOperations : Prop :=
  (∀ (adr : Nat) (v : Byte) (s : State),
    (adr ≤ 0xFFFF → ∃ t, setMem adr v s = .next t ∧ (s.mem.wf = true → Memory.read t.mem adr = v)
      ∧ (∀ q, q ≠ adr → Memory.read t.mem q = Memory.read s.mem q) ∧ { t with mem := s.mem } = s)
    ∧ (0xFFFF < adr → setMem adr v s = .refused .hostAddress))
  ∧ (∀ (i j : Nat) (s : State),
    (i ≤ j ∧ j ≤ 0xFFFF → ∃ bs, getMemRange i j s = .ok bs ∧ bs.length = j - i + 1
      ∧ ∀ k, k ≤ j - i → bs[k]? = some (Memory.read s.mem (i + k)))
    ∧ (¬(i ≤ j ∧ j ≤ 0xFFFF) → getMemRange i j s = .error .hostRange))
  ∧ (∀ (i j : Nat) (data : List Byte) (s : State),
    (i ≤ j ∧ j ≤ 0xFFFF ∧ data.length = j - i + 1 → ∃ t, setMemRange i j data s = .next t
      ∧ (s.mem.wf = true → ∀ k, k ≤ j - i → some (Memory.read t.mem (i + k)) = data[k]?)
      ∧ (∀ q, q < i ∨ j < q → Memory.read t.mem q = Memory.read s.mem q)
      ∧ { t with mem := s.mem } = s)
    ∧ (i ≤ j ∧ j ≤ 0xFFFF ∧ data.length ≠ j - i + 1 →
        setMemRange i j data s = .refused .hostDataLength)
    ∧ (¬(i ≤ j ∧ j ≤ 0xFFFF) → setMemRange i j data s = .refused .hostRange))

/-- R265: after `s = clone()` and any accepted events, `load_from(s)` brings back exactly the state of the
`clone`. That the latch is copied with the rest is the spec's decision D27: derived. -/
def Obligations.LoadFromRestoresTheClone : Prop :=
  ∀ (s t : State) (events : List Event), applyEvents events s = .next t →
    applyEvents (events ++ [.loadFrom (hostClone s)]) s = .next s

/-- R267: what software may assume at its first instruction, and the first step over memory whose byte at
0x0100 is 0x00. Derived: the latch is the spec's decision D12, the absence of an instruction 0x00 its D1. -/
def Obligations.LaunchStateAndFirstFetch : Prop :=
  ∀ m : Memory,
    (launch m).pair .AF = 0x01B0 ∧ (launch m).pair .BC = 0x0013 ∧ (launch m).pair .DE = 0x00D8
    ∧ (launch m).pair .HL = 0x014D ∧ (launch m).sp = 0xFFFE ∧ (launch m).pc = 0x0100
    ∧ (∀ q : Word, (launch m).read8 q = Memory.read m q.toNat) ∧ (launch m).fault = none
    ∧ (Memory.read m 0x0100 = 0x00 →
        step (launch m) = .next { launch m with fault := some { opcode := 0x00, addr := 0x0100 } })

/-! ## Encoding -/

/-- R81, R82, R88: decoding the bytes of a well-formed instruction gives it back, with every operand at
every value and whatever bytes follow. The opcode bytes are the spec's decision D5: derived. -/
def Obligations.DecodeOfEncode : Prop :=
  ∀ (i : Instr) (rest : List Byte), i.wf = true → decode (encode i ++ rest) = .ok (i, rest)

/-- R82, R92: whatever the decoder reads is well formed and encodes to the bytes it read. Derived (D5). -/
def Obligations.EncodeOfDecode : Prop :=
  ∀ (bytes : List Byte) (i : Instr) (rest : List Byte), decode bytes = .ok (i, rest) →
    i.wf = true ∧ encode i ++ rest = bytes

/-- R83 to R85, R89: the fifteen field patterns of the primary opcode byte, each at every field value and
with any bytes after it. The patterns and codes are the spec's, from general knowledge (G1 to G6,
D5): derived. -/
def Obligations.OpcodeFieldPatterns : Prop :=
  ∀ b1 b2 : Byte,
    (∀ d r, decodeBytes (0x40#8 ||| codeOfReg8 d <<< 3 ||| codeOfReg8 r) b1 b2 = Instr.ldRegReg d r)
    ∧ (∀ d, decodeBytes (0x46#8 ||| codeOfReg8 d <<< 3) b1 b2 = Instr.ldRegMem d)
    ∧ (∀ r, decodeBytes (0x70#8 ||| codeOfReg8 r) b1 b2 = Instr.ldMemReg r)
    ∧ (∀ op r, decodeBytes (0x80#8 ||| codeOfAluOp op <<< 3 ||| codeOfReg8 r) b1 b2
        = Instr.alu op (.reg r))
    ∧ (∀ op, decodeBytes (0x86#8 ||| codeOfAluOp op <<< 3) b1 b2 = Instr.alu op .atHL)
    ∧ (∀ op, decodeBytes (0xC6#8 ||| codeOfAluOp op <<< 3) b1 b2 = Instr.alu op (.imm b1))
    ∧ (∀ r, decodeBytes (0x04#8 ||| codeOfReg8 r <<< 3) b1 b2 = Instr.incReg r)
    ∧ (∀ r, decodeBytes (0x05#8 ||| codeOfReg8 r <<< 3) b1 b2 = Instr.decReg r)
    ∧ (∀ r, decodeBytes (0x06#8 ||| codeOfReg8 r <<< 3) b1 b2 = Instr.ldRegImm r b1)
    ∧ decodeBytes 0x34 b1 b2 = .inc_mHL ∧ decodeBytes 0x35 b1 b2 = .dec_mHL
    ∧ decodeBytes 0x36 b1 b2 = .ld_mHL_d8 b1
    ∧ (∀ p, decodeBytes (0x01#8 ||| codeOfReg16 p <<< 4) b1 b2
        = Instr.ldPairImm p (joinBytes b2 b1))
    ∧ (∀ p, decodeBytes (0x03#8 ||| codeOfReg16 p <<< 4) b1 b2 = Instr.incReg16 p)
    ∧ (∀ p, decodeBytes (0x0B#8 ||| codeOfReg16 p <<< 4) b1 b2 = Instr.decReg16 p)
    ∧ (∀ p, decodeBytes (0x09#8 ||| codeOfReg16 p <<< 4) b1 b2 = Instr.addHl p)
    ∧ (∀ cc, decodeBytes (0x20#8 ||| codeOfCond cc <<< 3) b1 b2 = Instr.jrCond cc b1)
    ∧ (∀ cc, decodeBytes (0xC0#8 ||| codeOfCond cc <<< 3) b1 b2 = Instr.retCond cc)
    ∧ (∀ cc, decodeBytes (0xC2#8 ||| codeOfCond cc <<< 3) b1 b2
        = Instr.jpCond cc (joinBytes b2 b1))
    ∧ (∀ cc, decodeBytes (0xC4#8 ||| codeOfCond cc <<< 3) b1 b2
        = Instr.callCond cc (joinBytes b2 b1))
    ∧ (∀ n : Fin 8, decodeBytes (0xC7#8 ||| BitVec.ofNat 8 n <<< 3) b1 b2 = Instr.rst n)

/-- R87, R93 and the families' examples: a few words written out from the spec. -/
def Obligations.DecodeOfSampleWords : Prop :=
  decode [0x01, 0x34, 0x12] = .ok (.ld_BC_d16 0x1234, []) ∧ decode [0x41] = .ok (.ld_B_C, [])
  ∧ decode [0xC6, 0xC6] = .ok (.add_A_d8 0xC6, []) ∧ decode [0xA5] = .ok (.and_L, [])
  ∧ decode [0xC3, 0x24, 0x35] = .ok (.jp_a16 0x3524, []) ∧ decode [0x18, 0xF1] = .ok (.jr_e8 0xF1, [])
  ∧ decode [0x07] = .ok (.rlca, []) ∧ decode [0xD3] = .ok (.unknown 0xD3, [])
  ∧ decode [0xCB, 0x37] = .ok (.prefixCB 0x37, []) ∧ decode [0xFC] = .ok (.undefined 0xFC, [])

/-! ## The step -/

/-- R92, R269: on a live state there is a decoded instruction at PC, and the step is its `exec`; nothing is
added around it (the meaning itself moves PC). Derived (R92 is the spec's derivation). -/
def Obligations.StepRunsTheDecodedInstruction : Prop :=
  ∀ s : State, s.fault = none →
    (∃ i rest, decode [s.read8 s.pc, s.read8 (s.pc + 1), s.read8 (s.pc + 2)] = .ok (i, rest))
    ∧ ∀ i rest, decode [s.read8 s.pc, s.read8 (s.pc + 1), s.read8 (s.pc + 2)] = .ok (i, rest) →
        step s = exec i s

/-- R231, R269: every instruction completes on every state, and every live state has a step: `tick` is
total. Derived. -/
def Obligations.EveryInstructionCompletes : Prop :=
  (∀ (i : Instr) (s : State), ∃ t, exec i s = .next t)
  ∧ ∀ s : State, s.fault = none → ∃ t, step s = .next t

/-- R90: what executing each class of byte that selects no implemented instruction does, for every value of
`TOLERATED_UNDEFINED`; any other byte raises nothing. The classes are the spec's decisions D1 to
D3: derived. -/
def Obligations.StepOnUnimplementedBytes : Prop :=
  ∀ s : State, s.fault = none →
    (s.read8 s.pc ∈ absentBytes →
      step s = .next { s with fault := some { opcode := s.read8 s.pc, addr := s.pc } })
    ∧ (s.read8 s.pc ∈ Config.undefinedCandidates →
      (Config.toleratesUndefined (s.read8 s.pc) = true → step s = .next { s with pc := s.pc + 1 })
      ∧ (Config.toleratesUndefined (s.read8 s.pc) = false →
        step s = .next { s with fault := some { opcode := s.read8 s.pc, addr := s.pc } }))
    ∧ (s.read8 s.pc = 0xCB →
      step s = .next { s with fault := some { opcode := s.read8 (s.pc + 1), addr := s.pc + 1 } })
    ∧ (s.read8 s.pc ∉ absentBytes → s.read8 s.pc ∉ Config.undefinedCandidates →
      s.read8 s.pc ≠ 0xCB → ∃ t, step s = .next t ∧ t.fault = none)

/-- R230, R233: the fault is precise. If a step sets the latch, nothing else has changed, PC still holds the
address of the first byte, and the record is that byte and PC, or, after the prefix, the second byte
and PC + 1. Derived: that PC stays and the record's address follow the spec's conflict C5 and decision
D26, the prefix case is its own extension D2 (log entry 7), the latch is its decision D12 (log
entry 1). -/
def Obligations.FaultIsPrecise : Prop :=
  ∀ (s t : State) (r : FaultRecord), step s = .next t → t.fault = some r →
    t = { s with fault := some r }
    ∧ ((s.read8 s.pc ≠ 0xCB ∧ r = { opcode := s.read8 s.pc, addr := s.pc })
      ∨ (s.read8 s.pc = 0xCB ∧ r = { opcode := s.read8 (s.pc + 1), addr := s.pc + 1 }))

/-- R38, R232: the life of the fault latch. Clear after `new`; `init` and the host's memory operations leave
it; only a step that runs one of the instructions without an effect sets it; while it is set a tick
is refused. The latch is the spec's decision D12: derived. -/
def Obligations.FaultLatchLifecycle : Prop :=
  hostNew.fault = none
  ∧ (∀ s, (hostInit s).fault = s.fault)
  ∧ (∀ s t adr v, setMem adr v s = .next t → t.fault = s.fault)
  ∧ (∀ s t i j data, setMemRange i j data s = .next t → t.fault = s.fault)
  ∧ (∀ s r, s.fault = some r → step s = .refused (.faultLatched r.opcode r.addr))
  ∧ (∀ s t, step s = .next t → t.fault ≠ none → isUnimplemented s.fetch = true)

/-- R38: the latch "is invisible to every instruction": two states that differ in it alone go to states that
differ in it alone. Derived: the latch is the spec's decision D12 (log entry 1). -/
def Obligations.FaultLatchIsInvisible : Prop :=
  ∀ (i : Instr) (s : State) (r : Option FaultRecord), ∃ t u, exec i s = .next t
    ∧ exec i { s with fault := r } = .next u ∧ { u with fault := t.fault } = t

/-- R269, R230: `tick` answers success and the next state, or the error and the same state with the latch
set; on a latched state it is refused. Derived (D12). -/
def Obligations.TickResults : Prop :=
  ∀ s : State,
    (s.fault = none → (∃ t, tick s = .success t ∧ t.fault = none ∧ step s = .next t)
      ∨ ∃ r, tick s = .error r { s with fault := some r })
    ∧ (∀ r, s.fault = some r → tick s = .refused (.faultLatched r.opcode r.addr))

/-! ## Invariants and whole-machine rules -/

/-- Every step keeps the invariant: memory in its canonical form (the model's representation, log entry 14)
and the low nibble of F at 0 (R28). -/
def Obligations.StepKeepsInvariant : Prop :=
  ∀ s t : State, s.Inv → step s = .next t → t.Inv

/-- The reset state meets the invariant. -/
def Obligations.ResetMeetsInvariant : Prop := State.reset.Inv

/-- R28: "F[3:0] = 0 in every state reachable", here with host writes between the steps too; memory stays
canonical. Derived: R28 is the spec's derivation, the host writes as events between steps are log entry 13,
the canonical list is the model's representation, log entry 14. -/
def Obligations.ReachableStatesMeetInvariant : Prop :=
  ∀ s : State, Reachable s → s.Inv

/-- R26: "Lower nibble is unused but preserved verbatim": no instruction changes it, in any state. Derived. -/
def Obligations.LowNibbleOfFIsPreserved : Prop :=
  ∀ (i : Instr) (s t : State), exec i s = .next t → t.f &&& 0x0F#8 = s.f &&& 0x0F#8

/-- R65, R51: the only bytes an instruction changes are those it stores to; every instruction that is not a
store, a read-modify-write, a taken CALL or an RST changes none. Derived (R65 is the spec's
derivation). -/
def Obligations.OnlyStoredBytesChange : Prop :=
  ∀ (i : Instr) (s t : State), exec i s = .next t → MemKept s t (storedBy s i)

/-- R29: an instruction outside the flag-writing families leaves F as it was: every LD, LDH, LDI, LDD, the
16-bit INC and DEC, every control transfer, and the bytes without an instruction. Derived. -/
def Obligations.OtherInstructionsKeepF : Prop :=
  ∀ (i : Instr) (s t : State), writesFlags i = false → exec i s = .next t → t.f = s.f

/-- R31: SP is written by LD SP,d16, INC SP, DEC SP, ADD SP,e8, CALL, RST and RET, and by nothing else.
Derived. -/
def Obligations.OnlySpWritersChangeSp : Prop :=
  ∀ (i : Instr) (s t : State), writesSp i = false → exec i s = .next t → t.sp = s.sp

/-- R33: an implemented instruction that is no control transfer ends with PC past its own bytes, modulo
65,536. Derived. -/
def Obligations.PcAdvancesByLength : Prop :=
  ∀ (i : Instr) (s t : State), isControlFlow i = false → isUnimplemented i = false →
    exec i s = .next t → t.pc = s.pc + BitVec.ofNat 16 (encode i).length

/-- R30: "F.N and F.H are written but never read by any instruction in the set". Two states that differ in
those two bits of F alone go, under the same instruction, to states that differ in those two bits at
most. Derived. -/
def Obligations.SubtractAndHalfCarryAreNeverRead : Prop :=
  ∀ (i : Instr) (s : State) (f' : Byte),
    (∀ k, k ≠ 6 → k ≠ 5 → f'.getLsbD k = s.f.getLsbD k) →
    ∃ t u, exec i s = .next t ∧ exec i { s with f := f' } = .next u ∧ { u with f := t.f } = t
      ∧ ∀ k, k ≠ 6 → k ≠ 5 → u.f.getLsbD k = t.f.getLsbD k

/-- R73: a store is seen by the very next fetch, with no fence: LD (a16),A onto the byte after itself makes
that byte the opcode the next step reads. Derived (D22). -/
def Obligations.StoreIsSeenByNextFetch : Prop :=
  ∀ s : State, s.mem.wf = true → ∃ t, exec (.ld_ma16_A (s.pc + 3)) s = .next t ∧ t.pc = s.pc + 3
    ∧ t.fetch = decodeBytes s.a (s.read8 (s.pc + 4)) (s.read8 (s.pc + 5))

/-- R271: a finished state is left unchanged by its step: JR with `e8 = 0xFE`, or JP to its own address. The
convention is the spec's decision D25: derived. -/
def Obligations.FinishedStateIsFixed : Prop :=
  ∀ s : State, s.Finished → step s = .next s

/-! ## Load and store -/

/-- R111: LD r,r'. -/
def Obligations.LoadRegisterFromRegister : Prop :=
  ∀ (d r : Reg8) (s : State), ∃ t, exec (Instr.ldRegReg d r) s = .next t ∧ t.reg d = s.reg r
    ∧ Frame s t [d] [] ∧ t.f = s.f ∧ t.sp = s.sp ∧ t.pc = s.pc + 1

/-- R112, R114, R115, R122, R124, R126: the loads from memory, each with its address as it stands before the
write. -/
def Obligations.LoadRegisterFromMemory : Prop :=
  ∀ s : State, (∀ d, LoadsByte (Instr.ldRegMem d) s d (s.pair .HL) 1)
    ∧ LoadsByte .ld_A_mBC s .A (s.pair .BC) 1 ∧ LoadsByte .ld_A_mDE s .A (s.pair .DE) 1
    ∧ (∀ a16, LoadsByte (.ld_A_ma16 a16) s .A a16 3)
    ∧ (∀ a8, LoadsByte (.ldh_A_ma8 a8) s .A (0xFF00 + zext16 a8) 2)
    ∧ LoadsByte .ld_A_mC s .A (0xFF00 + zext16 s.c) 1

/-- R113, R116, R117, R121, R123, R125: the stores of one byte. -/
def Obligations.StoreRegisterToMemory : Prop :=
  ∀ s : State, (∀ r, StoresByte (Instr.ldMemReg r) s (s.pair .HL) (s.reg r) 1)
    ∧ StoresByte .ld_mBC_A s (s.pair .BC) s.a 1 ∧ StoresByte .ld_mDE_A s (s.pair .DE) s.a 1
    ∧ (∀ a16, StoresByte (.ld_ma16_A a16) s a16 s.a 3)
    ∧ (∀ a8, StoresByte (.ldh_ma8_A a8) s (highPage a8) s.a 2)
    ∧ StoresByte .ld_mC_A s (highPage s.c) s.a 1

/-- R118, R120: the immediate loads; a pair's high register takes `b2`, its low one `b1`. Derived: the form on
SP is the spec's decision D4. -/
def Obligations.LoadImmediate : Prop :=
  (∀ (r : Reg8) (d8 : Byte) (s : State), ∃ t, exec (Instr.ldRegImm r d8) s = .next t ∧ t.reg r = d8
    ∧ Frame s t [r] [] ∧ t.f = s.f ∧ t.sp = s.sp ∧ t.pc = s.pc + 2)
  ∧ ∀ (b2 b1 : Byte) (s : State),
    (∃ t, exec (.ld_BC_d16 (joinBytes b2 b1)) s = .next t ∧ t.b = b2 ∧ t.c = b1
      ∧ Frame s t [.B, .C] [] ∧ t.f = s.f ∧ t.sp = s.sp ∧ t.pc = s.pc + 3)
    ∧ (∃ t, exec (.ld_DE_d16 (joinBytes b2 b1)) s = .next t ∧ t.d = b2 ∧ t.e = b1
      ∧ Frame s t [.D, .E] [] ∧ t.f = s.f ∧ t.sp = s.sp ∧ t.pc = s.pc + 3)
    ∧ (∃ t, exec (.ld_HL_d16 (joinBytes b2 b1)) s = .next t ∧ t.h = b2 ∧ t.l = b1
      ∧ Frame s t [.H, .L] [] ∧ t.f = s.f ∧ t.sp = s.sp ∧ t.pc = s.pc + 3)
    ∧ ∃ t, exec (.ld_SP_d16 (joinBytes b2 b1)) s = .next t ∧ t.sp = joinBytes b2 b1
      ∧ Frame s t [] [] ∧ t.f = s.f ∧ t.pc = s.pc + 3

/-- R128, R130: LDI A,(HL) and LDD A,(HL) load from HL, then move HL by one, modulo 65,536. -/
def Obligations.LoadAndStepHl : Prop :=
  ∀ s : State,
    (∃ t, exec .ldi_A_mHL s = .next t ∧ t.a = s.read8 (s.pair .HL) ∧ t.pair .HL = s.pair .HL + 1
      ∧ Frame s t [.A, .H, .L] [] ∧ t.f = s.f ∧ t.sp = s.sp ∧ t.pc = s.pc + 1)
    ∧ ∃ t, exec .ldd_A_mHL s = .next t ∧ t.a = s.read8 (s.pair .HL) ∧ t.pair .HL = s.pair .HL - 1
      ∧ Frame s t [.A, .H, .L] [] ∧ t.f = s.f ∧ t.sp = s.sp ∧ t.pc = s.pc + 1

/-- R127, R129: LDI (HL),A and LDD (HL),A store at HL, then move HL by one, modulo 65,536. -/
def Obligations.StoreAndStepHl : Prop :=
  ∀ s : State,
    (∃ t, exec .ldi_mHL_A s = .next t ∧ (s.mem.wf = true → t.read8 (s.pair .HL) = s.a)
      ∧ t.pair .HL = s.pair .HL + 1 ∧ Frame s t [.H, .L] [s.pair .HL] ∧ t.f = s.f ∧ t.sp = s.sp
      ∧ t.pc = s.pc + 1)
    ∧ ∃ t, exec .ldd_mHL_A s = .next t ∧ (s.mem.wf = true → t.read8 (s.pair .HL) = s.a)
      ∧ t.pair .HL = s.pair .HL - 1 ∧ Frame s t [.H, .L] [s.pair .HL] ∧ t.f = s.f ∧ t.sp = s.sp
      ∧ t.pc = s.pc + 1

/-- R119, R131: LD (HL),d8, a form the spec admits by its decision D4, and LD (a16),SP, whose byte order is
its decision D7: derived. -/
def Obligations.StoreImmediateAndStackPointer : Prop :=
  ∀ s : State, (∀ d8, StoresByte (.ld_mHL_d8 d8) s (s.pair .HL) d8 2)
    ∧ ∀ a16, ∃ t, exec (.ld_ma16_SP a16) s = .next t
      ∧ (s.mem.wf = true → t.read8 a16 = loByte s.sp ∧ t.read8 (a16 + 1) = hiByte s.sp)
      ∧ Frame s t [] [a16, a16 + 1] ∧ t.f = s.f ∧ t.sp = s.sp ∧ t.pc = s.pc + 3

/-! ## Arithmetic -/

/-- R153, R155: ADD A,r and ADD A,d8: the wrapped sum, Z, N = 0, half-carry out of bit 3, carry out of bit
7. The (HL) form is in `AdcAndMemoryAdd`. -/
def Obligations.AddToAccumulator : Prop :=
  ∀ s : State,
    (∀ r, AluGives (Instr.alu .add (.reg r)) s (s.a + s.reg r) (decide (s.a + s.reg r = 0)) false
      (decide (0x0F < s.a.toNat % 16 + (s.reg r).toNat % 16))
      (decide (0xFF < s.a.toNat + (s.reg r).toNat)) 1)
    ∧ ∀ d8, AluGives (.add_A_d8 d8) s (s.a + d8) (decide (s.a + d8 = 0)) false
      (decide (0x0F < s.a.toNat % 16 + d8.toNat % 16)) (decide (0xFF < s.a.toNat + d8.toNat)) 2

/-- R154, R156 to R158: ADD A,(HL), a form the spec admits by its decision D4, and ADC in every form, whose
use of the carry-in for H and C is its decision D10: derived. -/
def Obligations.AdcAndMemoryAdd : Prop :=
  ∀ s : State,
    AluGives .add_A_mHL s (s.a + s.read8 (s.pair .HL)) (decide (s.a + s.read8 (s.pair .HL) = 0)) false
      (decide (0x0F < s.a.toNat % 16 + (s.read8 (s.pair .HL)).toNat % 16))
      (decide (0xFF < s.a.toNat + (s.read8 (s.pair .HL)).toNat)) 1
    ∧ ∀ src, AluGives (Instr.alu .adc src) s
      (s.a + s.aluOperand src + (if s.flag .C then 1 else 0))
      (decide (s.a + s.aluOperand src + (if s.flag .C then 1 else 0) = 0)) false
      (decide (0x0F < s.a.toNat % 16 + (s.aluOperand src).toNat % 16 + (s.flag .C).toNat))
      (decide (0xFF < s.a.toNat + (s.aluOperand src).toNat + (s.flag .C).toNat)) (aluLength src)

/-- R159 to R161: SUB in every form. Derived: the form on (HL) is the spec's decision D4. -/
def Obligations.SubtractFromAccumulator : Prop :=
  ∀ (src : AluSrc) (s : State), AluGives (Instr.alu .sub src) s (s.a - s.aluOperand src)
    (decide (s.a = s.aluOperand src)) true
    (decide (s.a.toNat % 16 < (s.aluOperand src).toNat % 16))
    (decide (s.a.toNat < (s.aluOperand src).toNat)) (aluLength src)

/-- R162 to R165: the 8-bit INC and DEC on a register and on (HL). C keeps its value: the spec's decision D8
(log entry 4); the (HL) forms are its decision D4: derived. -/
def Obligations.IncrementAndDecrementByte : Prop :=
  ∀ s : State,
    (∀ r, ∃ t, exec (Instr.incReg r) s = .next t ∧ t.reg r = s.reg r + 1
      ∧ FlagsAre s t (decide (s.reg r = 0xFF)) false (decide ((s.reg r).toNat % 16 = 15)) (s.flag .C)
      ∧ Frame s t [r] [] ∧ t.sp = s.sp ∧ t.pc = s.pc + 1)
    ∧ (∀ r, ∃ t, exec (Instr.decReg r) s = .next t ∧ t.reg r = s.reg r - 1
      ∧ FlagsAre s t (decide (s.reg r = 0x01)) true (decide ((s.reg r).toNat % 16 = 0)) (s.flag .C)
      ∧ Frame s t [r] [] ∧ t.sp = s.sp ∧ t.pc = s.pc + 1)
    ∧ (∃ t, exec .inc_mHL s = .next t
      ∧ (s.mem.wf = true → t.read8 (s.pair .HL) = s.read8 (s.pair .HL) + 1)
      ∧ FlagsAre s t (decide (s.read8 (s.pair .HL) = 0xFF)) false
        (decide ((s.read8 (s.pair .HL)).toNat % 16 = 15)) (s.flag .C)
      ∧ Frame s t [] [s.pair .HL] ∧ t.sp = s.sp ∧ t.pc = s.pc + 1)
    ∧ ∃ t, exec .dec_mHL s = .next t
      ∧ (s.mem.wf = true → t.read8 (s.pair .HL) = s.read8 (s.pair .HL) - 1)
      ∧ FlagsAre s t (decide (s.read8 (s.pair .HL) = 0x01)) true
        (decide ((s.read8 (s.pair .HL)).toNat % 16 = 0)) (s.flag .C)
      ∧ Frame s t [] [s.pair .HL] ∧ t.sp = s.sp ∧ t.pc = s.pc + 1

/-- R166, R167: the 16-bit INC and DEC on BC, DE, HL and SP; no flag is touched. Derived: the forms on SP are
the spec's decision D4. -/
def Obligations.IncrementAndDecrementWord : Prop :=
  ∀ s : State,
    (∃ t, exec .inc_BC s = .next t ∧ t.pair .BC = s.pair .BC + 1 ∧ Frame s t [.B, .C] [] ∧ t.f = s.f
      ∧ t.sp = s.sp ∧ t.pc = s.pc + 1)
    ∧ (∃ t, exec .inc_DE s = .next t ∧ t.pair .DE = s.pair .DE + 1 ∧ Frame s t [.D, .E] [] ∧ t.f = s.f
      ∧ t.sp = s.sp ∧ t.pc = s.pc + 1)
    ∧ (∃ t, exec .inc_HL s = .next t ∧ t.pair .HL = s.pair .HL + 1 ∧ Frame s t [.H, .L] [] ∧ t.f = s.f
      ∧ t.sp = s.sp ∧ t.pc = s.pc + 1)
    ∧ (∃ t, exec .inc_SP s = .next t ∧ t.sp = s.sp + 1 ∧ Frame s t [] [] ∧ t.f = s.f
      ∧ t.pc = s.pc + 1)
    ∧ (∃ t, exec .dec_BC s = .next t ∧ t.pair .BC = s.pair .BC - 1 ∧ Frame s t [.B, .C] [] ∧ t.f = s.f
      ∧ t.sp = s.sp ∧ t.pc = s.pc + 1)
    ∧ (∃ t, exec .dec_DE s = .next t ∧ t.pair .DE = s.pair .DE - 1 ∧ Frame s t [.D, .E] [] ∧ t.f = s.f
      ∧ t.sp = s.sp ∧ t.pc = s.pc + 1)
    ∧ (∃ t, exec .dec_HL s = .next t ∧ t.pair .HL = s.pair .HL - 1 ∧ Frame s t [.H, .L] [] ∧ t.f = s.f
      ∧ t.sp = s.sp ∧ t.pc = s.pc + 1)
    ∧ ∃ t, exec .dec_SP s = .next t ∧ t.sp = s.sp - 1 ∧ Frame s t [] [] ∧ t.f = s.f
      ∧ t.pc = s.pc + 1

/-- R168: ADD HL,rr: half-carry out of bit 11, carry out of bit 15. Z keeps its value: the spec's decision D9
(log entry 5): derived. -/
def Obligations.AddToHl : Prop :=
  ∀ (p : Reg16) (s : State), ∃ t, exec (Instr.addHl p) s = .next t
    ∧ t.pair .HL = s.pair .HL + s.reg16 p
    ∧ FlagsAre s t (s.flag .Z) false
      (decide (0x0FFF < (s.pair .HL).toNat % 4096 + (s.reg16 p).toNat % 4096))
      (decide (0xFFFF < (s.pair .HL).toNat + (s.reg16 p).toNat))
    ∧ Frame s t [.H, .L] [] ∧ t.sp = s.sp ∧ t.pc = s.pc + 1

/-- R169 to R171: ADD SP,e8 and LDHL SP,e8: the byte sign-extended before the unsigned add, Z and N cleared,
half-carry out of bit 11, carry out of bit 15; LDHL leaves SP and writes HL. Derived: that the two flags
come from bits 11 and 15 is the spec's resolution of its conflict C3 (log entry 12). -/
def Obligations.AddSignedToSp : Prop :=
  ∀ (e8 : Byte) (s : State),
    ((e8.toNat < 0x80 → (sext16 e8).toNat = e8.toNat)
      ∧ (0x80 ≤ e8.toNat → (sext16 e8).toNat = 0xFF00 + e8.toNat))
    ∧ (∃ t, exec (.add_SP_e8 e8) s = .next t ∧ t.sp = s.sp + sext16 e8
      ∧ FlagsAre s t false false (decide (0x0FFF < s.sp.toNat % 4096 + (sext16 e8).toNat % 4096))
        (decide (0xFFFF < s.sp.toNat + (sext16 e8).toNat))
      ∧ Frame s t [] [] ∧ t.pc = s.pc + 2)
    ∧ ∃ t, exec (.ldhl_SP_e8 e8) s = .next t ∧ t.pair .HL = s.sp + sext16 e8
      ∧ FlagsAre s t false false (decide (0x0FFF < s.sp.toNat % 4096 + (sext16 e8).toNat % 4096))
        (decide (0xFFFF < s.sp.toNat + (sext16 e8).toNat))
      ∧ Frame s t [.H, .L] [] ∧ t.sp = s.sp ∧ t.pc = s.pc + 2

/-! ## Logic, compare, rotate -/

/-- R180 to R188: AND, XOR and OR in every form: A takes the bitwise result, Z is set from it, N and C are
cleared, H is set by AND and cleared by the other two. Derived: the forms on (HL) are the spec's
decision D4. -/
def Obligations.LogicOperations : Prop :=
  ∀ (src : AluSrc) (s : State),
    AluGives (Instr.alu .and src) s (s.a &&& s.aluOperand src) (decide (s.a &&& s.aluOperand src = 0))
      false true false (aluLength src)
    ∧ AluGives (Instr.alu .xor src) s (s.a ^^^ s.aluOperand src)
      (decide (s.a = s.aluOperand src)) false false false (aluLength src)
    ∧ AluGives (Instr.alu .or src) s (s.a ||| s.aluOperand src)
      (decide (s.a = 0 ∧ s.aluOperand src = 0)) false false false (aluLength src)

/-- R189 to R191: CP in every form: the flags of SUB, and no register is written, A included. Derived: the
form on (HL) is the spec's decision D4. -/
def Obligations.CompareKeepsAccumulator : Prop :=
  ∀ (src : AluSrc) (s : State), ∃ t, exec (Instr.alu .cp src) s = .next t
    ∧ FlagsAre s t (decide (s.a = s.aluOperand src)) true
      (decide (s.a.toNat % 16 < (s.aluOperand src).toNat % 16))
      (decide (s.a.toNat < (s.aluOperand src).toNat))
    ∧ Frame s t [] [] ∧ t.sp = s.sp ∧ t.pc = s.pc + aluLength src

/-- R210, R211: RLCA and RRCA rotate A by one bit circularly, the bit rotated out becomes C, and Z, N, H are
cleared. Which way each goes is the spec's, from general knowledge (G15): derived. -/
def Obligations.RotateAccumulator : Prop :=
  ∀ s : State, AluGives .rlca s (s.a.rotateLeft 1) false false false (s.a.getLsbD 7) 1
    ∧ AluGives .rrca s (s.a.rotateRight 1) false false false (s.a.getLsbD 0) 1

/-! ## Control flow and the stack -/

/-- R196, R198: JP goes to its operand; JR to the address of the next instruction plus the signed offset,
modulo 65,536. -/
def Obligations.UnconditionalJumps : Prop :=
  ∀ s : State, (∀ a16, OnlyMovesPc (.jp_a16 a16) s a16)
    ∧ ∀ e8, OnlyMovesPc (.jr_e8 e8) s (BitVec.ofInt 16 (s.pc.toNat + 2 + e8.toInt))

/-- R195, R197, R199: a conditional jump goes to its target when its condition holds and past its bytes when
it does not. -/
def Obligations.ConditionalJumps : Prop :=
  ∀ (cc : Cond) (s : State),
    (Holds s cc → (∀ a16, OnlyMovesPc (Instr.jpCond cc a16) s a16)
      ∧ ∀ e8, OnlyMovesPc (Instr.jrCond cc e8) s (BitVec.ofInt 16 (s.pc.toNat + 2 + e8.toInt)))
    ∧ (¬ Holds s cc → (∀ a16, OnlyMovesPc (Instr.jpCond cc a16) s (s.pc + 3))
      ∧ ∀ e8, OnlyMovesPc (Instr.jrCond cc e8) s (s.pc + 2))

/-- R195, R200, R201: CALL pushes the address after itself and jumps; CALL cc does so when its condition
holds and otherwise only moves past its bytes, with no stack mutation. -/
def Obligations.CallsPushAndJump : Prop :=
  ∀ (a16 : Word) (s : State), CallsTo (.call_a16 a16) s (s.pc + 3) a16
    ∧ ∀ cc, (Holds s cc → CallsTo (Instr.callCond cc a16) s (s.pc + 3) a16)
      ∧ (¬ Holds s cc → OnlyMovesPc (Instr.callCond cc a16) s (s.pc + 3))

/-- R195, R202, R203: RET pops PC; RET cc does so when its condition holds and otherwise only moves past its
byte. -/
def Obligations.ReturnsPopPc : Prop :=
  ∀ s : State, Returns .ret s
    ∧ ∀ cc, (Holds s cc → Returns (Instr.retCond cc) s)
      ∧ (¬ Holds s cc → OnlyMovesPc (Instr.retCond cc) s (s.pc + 1))

/-- R204: RST calls the page-zero address `ttt * 8`. The eight targets are the spec's decision D20: derived. -/
def Obligations.RestartCallsPageZero : Prop :=
  ∀ (ttt : Fin 8) (s : State),
    CallsTo (Instr.rst ttt) s (s.pc + 1) (BitVec.ofNat 16 (ttt.val * 8))

/-- R58, R60: what `push16` and `pop16` do, and R61 (a): the second undoes the first. Derived: that this holds
for every starting SP is the spec's derivation in R61, and the wrap it rests on is its decision D11
(log entry 8). -/
def Obligations.Push16ThenPop16 : Prop :=
  ∀ (s : State) (v : Word),
    ((s.push16 v).sp = s.sp - 2 ∧ MemKept s (s.push16 v) [s.sp, s.sp - 1]
      ∧ { s.push16 v with sp := s.sp, mem := s.mem } = s)
    ∧ (s.pop16.1 = joinBytes (s.read8 (s.sp + 2)) (s.read8 (s.sp + 1))
      ∧ s.pop16.2 = { s with sp := s.sp + 2 })
    ∧ (s.mem.wf = true → (s.push16 v).read8 s.sp = hiByte v
      ∧ (s.push16 v).read8 (s.sp - 1) = loByte v
      ∧ (s.push16 v).pop16.1 = v ∧ (s.push16 v).pop16.2.sp = s.sp)

/-- R57, R59, R61 as C6 corrects it: `pop(n)` after `push(data)` returns the bytes reversed, SP comes back,
and no byte outside the pushed ones has changed. Derived (D11 for the wrap). -/
def Obligations.PopReversesPush : Prop :=
  ∀ (s : State) (data : List Byte), s.mem.wf = true → data.length ≤ 65536 →
    ((s.push data).pop data.length).1 = data.reverse
    ∧ ((s.push data).pop data.length).2.sp = s.sp
    ∧ ∀ q : Word, (∀ k, k < data.length → q ≠ s.sp - BitVec.ofNat 16 k) →
        (s.push data).read8 q = s.read8 q

/-- R61 (c), R200, R202: a CALL and then a RET bring PC back to the address after the CALL and SP to where it
was. Derived. -/
def Obligations.CallThenReturn : Prop :=
  ∀ (s : State) (a16 : Word), s.mem.wf = true →
    ∃ t u, exec (.call_a16 a16) s = .next t ∧ exec .ret t = .next u
      ∧ u.pc = s.pc + 3 ∧ u.sp = s.sp

/-! ## The bytes without an implemented instruction -/

/-- R216, R230: an unknown primary opcode raises UnknownInstruction(op, pc0); no register, flag or byte
changes. Derived: which bytes are unknown is the spec's decision D1 (`StepOnUnimplementedBytes`). -/
def Obligations.UnknownOpcodeRaises : Prop :=
  ∀ (op : Byte) (s : State), ∃ t, exec (.unknown op) s = .next t
    ∧ t.fault = some { opcode := op, addr := s.pc } ∧ RegsKept s t [] ∧ MemKept s t [] ∧ t.f = s.f
    ∧ t.sp = s.sp ∧ t.pc = s.pc

/-- R215, R217: the prefix raises with the second byte and its own address (decision D2); a candidate byte
is a no-operation when tolerated and raises when not (decision D3), whatever the open parameter
holds: derived. -/
def Obligations.PrefixRaisesAndCandidatesFollowTheParameter : Prop :=
  (∀ (b1 : Byte) (s : State), ∃ t, exec (.prefixCB b1) s = .next t
    ∧ t.fault = some { opcode := b1, addr := s.pc + 1 } ∧ RegsKept s t [] ∧ MemKept s t []
    ∧ t.f = s.f ∧ t.sp = s.sp ∧ t.pc = s.pc)
  ∧ ∀ (op : Byte) (s : State), ∃ t, exec (.undefined op) s = .next t
    ∧ RegsKept s t [] ∧ MemKept s t [] ∧ t.f = s.f ∧ t.sp = s.sp
    ∧ (Config.toleratesUndefined op = true → t.pc = s.pc + 1 ∧ t.fault = s.fault)
    ∧ (Config.toleratesUndefined op = false →
        t.pc = s.pc ∧ t.fault = some { opcode := op, addr := s.pc })
end

