-- ==== Sys2Proof/Laws/Decode.lean ====
section
/-! SUPPORT. What the decoder does with a byte string, by the table entry of its first byte: one lemma
for each kind of entry. -/

namespace Sys2Proof

section
variable {op : Byte} {rest : List Byte}

theorem decode_implied {i : Instr} (h : tableEntry op = .implied i) :
    decode (op :: rest) = .ok (i, rest) := by
  simp [decode, lengthOf, decodeBytes, h, Entry.length]

theorem decode_imm8 {f : Byte → Instr} {b1 : Byte} (h : tableEntry op = .imm8 f) :
    decode (op :: b1 :: rest) = .ok (f b1, rest) := by
  simp [decode, lengthOf, decodeBytes, h, Entry.length]

theorem decode_imm16 {f : Word → Instr} {b1 b2 : Byte} (h : tableEntry op = .imm16 f) :
    decode (op :: b1 :: b2 :: rest) = .ok (f (joinBytes b2 b1), rest) := by
  simp [decode, lengthOf, decodeBytes, h, Entry.length]

theorem decode_absent (h : tableEntry op = .absent) :
    decode (op :: rest) = .ok (.unknown op, rest) := by
  simp [decode, lengthOf, decodeBytes, h, Entry.length]

theorem decode_candidate (h : tableEntry op = .candidate) :
    decode (op :: rest) = .ok (.undefined op, rest) := by
  simp [decode, lengthOf, decodeBytes, h, Entry.length]

theorem decode_cbPrefix {b1 : Byte} (h : tableEntry op = .cbPrefix) :
    decode (op :: b1 :: rest) = .ok (.prefixCB b1, rest) := by
  simp [decode, lengthOf, decodeBytes, h, Entry.length]

end

/-- Three bytes are always enough, and what they decode to is `decodeBytes` of them. -/
theorem decode_three (op b1 b2 : Byte) :
    ∃ rest, decode [op, b1, b2] = .ok (decodeBytes op b1 b2, rest) := by
  have short : lengthOf op ≤ 3 := by
    unfold lengthOf
    cases tableEntry op <;> simp [Entry.length]
  exact ⟨_, by simp [decode, Nat.not_lt.2 short]; rfl⟩

/-! ## The classes of R90 in the table -/

theorem tableEntry_absent {op : Byte} (h : op ∈ absentBytes) : tableEntry op = .absent := by
  have all : ∀ b ∈ absentBytes, (match tableEntry b with | .absent => true | _ => false) = true := by
    decide
  have := all op h
  cases e : tableEntry op <;> simp_all

theorem tableEntry_candidate {op : Byte} (h : op ∈ Config.undefinedCandidates) :
    tableEntry op = .candidate := by
  have all : ∀ b ∈ Config.undefinedCandidates,
      (match tableEntry b with | .candidate => true | _ => false) = true := by
    decide
  have := all op h
  cases e : tableEntry op <;> simp_all

/-- A statement about every byte, from the 256 of them. -/
theorem forall_byte {P : Byte → Prop} (h : ∀ n < 256, P (BitVec.ofNat 8 n)) (op : Byte) : P op := by
  have := h op.toNat op.isLt
  rwa [BitVec.ofNat_toNat, BitVec.setWidth_eq] at this

theorem lengthOf_bounds (op : Byte) : 1 ≤ lengthOf op ∧ lengthOf op ≤ 3 := by
  unfold lengthOf
  cases tableEntry op <;> simp [Entry.length]

theorem tableEntry_prefix : tableEntry 0xCB = .cbPrefix := rfl

/-- R82: the first byte alone decides the length. -/
theorem lengthOf_unknown {op : Byte} (h : (Instr.unknown op).wf = true) : lengthOf op = 1 := by
  simp [lengthOf, tableEntry_absent (of_decide_eq_true h), Entry.length]

theorem lengthOf_undefined {op : Byte} (h : (Instr.undefined op).wf = true) : lengthOf op = 1 := by
  simp [lengthOf, tableEntry_candidate (of_decide_eq_true h), Entry.length]

end Sys2Proof
end

