-- ==== Sys2Proof/Laws/State.lean ====
section
/-! SUPPORT. One lemma for each field and each update of the state: what an update does not write, it
leaves, and what it writes. Tagged `simp`, so that no proof unfolds a record update. -/

namespace Sys2Proof.Machine

variable (s : State)

/-! ## `s.setReg r v` -/

@[simp] theorem setReg_f (r : Reg8) (v : Byte) : (s.setReg r v).f = s.f := by cases r <;> rfl
@[simp] theorem setReg_sp (r : Reg8) (v : Byte) : (s.setReg r v).sp = s.sp := by cases r <;> rfl
@[simp] theorem setReg_pc (r : Reg8) (v : Byte) : (s.setReg r v).pc = s.pc := by cases r <;> rfl
@[simp] theorem setReg_mem (r : Reg8) (v : Byte) : (s.setReg r v).mem = s.mem := by cases r <;> rfl
@[simp] theorem setReg_fault (r : Reg8) (v : Byte) : (s.setReg r v).fault = s.fault := by cases r <;> rfl

/-! ## `s.setPair p n` -/

@[simp] theorem setPair_sp (p : Pair) (n : Word) : (s.setPair p n).sp = s.sp := by cases p <;> rfl
@[simp] theorem setPair_pc (p : Pair) (n : Word) : (s.setPair p n).pc = s.pc := by cases p <;> rfl
@[simp] theorem setPair_mem (p : Pair) (n : Word) : (s.setPair p n).mem = s.mem := by cases p <;> rfl
@[simp] theorem setPair_fault (p : Pair) (n : Word) : (s.setPair p n).fault = s.fault := by cases p <;> rfl

/-! ## `s.setReg16 p n` -/

@[simp] theorem setReg16_a (p : Reg16) (n : Word) : (s.setReg16 p n).a = s.a := by cases p <;> rfl
@[simp] theorem setReg16_f (p : Reg16) (n : Word) : (s.setReg16 p n).f = s.f := by cases p <;> rfl
@[simp] theorem setReg16_pc (p : Reg16) (n : Word) : (s.setReg16 p n).pc = s.pc := by cases p <;> rfl
@[simp] theorem setReg16_mem (p : Reg16) (n : Word) : (s.setReg16 p n).mem = s.mem := by cases p <;> rfl
@[simp] theorem setReg16_fault (p : Reg16) (n : Word) : (s.setReg16 p n).fault = s.fault := by cases p <;> rfl

/-! ## `s.write8 adr v` -/

@[simp] theorem write8_a (adr : Word) (v : Byte) : (s.write8 adr v).a = s.a := rfl
@[simp] theorem write8_f (adr : Word) (v : Byte) : (s.write8 adr v).f = s.f := rfl
@[simp] theorem write8_b (adr : Word) (v : Byte) : (s.write8 adr v).b = s.b := rfl
@[simp] theorem write8_c (adr : Word) (v : Byte) : (s.write8 adr v).c = s.c := rfl
@[simp] theorem write8_d (adr : Word) (v : Byte) : (s.write8 adr v).d = s.d := rfl
@[simp] theorem write8_e (adr : Word) (v : Byte) : (s.write8 adr v).e = s.e := rfl
@[simp] theorem write8_h (adr : Word) (v : Byte) : (s.write8 adr v).h = s.h := rfl
@[simp] theorem write8_l (adr : Word) (v : Byte) : (s.write8 adr v).l = s.l := rfl
@[simp] theorem write8_sp (adr : Word) (v : Byte) : (s.write8 adr v).sp = s.sp := rfl
@[simp] theorem write8_pc (adr : Word) (v : Byte) : (s.write8 adr v).pc = s.pc := rfl
@[simp] theorem write8_fault (adr : Word) (v : Byte) : (s.write8 adr v).fault = s.fault := rfl

/-! ## `s.write16 adr v` -/

@[simp] theorem write16_a (adr : Word) (v : Word) : (s.write16 adr v).a = s.a := rfl
@[simp] theorem write16_f (adr : Word) (v : Word) : (s.write16 adr v).f = s.f := rfl
@[simp] theorem write16_b (adr : Word) (v : Word) : (s.write16 adr v).b = s.b := rfl
@[simp] theorem write16_c (adr : Word) (v : Word) : (s.write16 adr v).c = s.c := rfl
@[simp] theorem write16_d (adr : Word) (v : Word) : (s.write16 adr v).d = s.d := rfl
@[simp] theorem write16_e (adr : Word) (v : Word) : (s.write16 adr v).e = s.e := rfl
@[simp] theorem write16_h (adr : Word) (v : Word) : (s.write16 adr v).h = s.h := rfl
@[simp] theorem write16_l (adr : Word) (v : Word) : (s.write16 adr v).l = s.l := rfl
@[simp] theorem write16_sp (adr : Word) (v : Word) : (s.write16 adr v).sp = s.sp := rfl
@[simp] theorem write16_pc (adr : Word) (v : Word) : (s.write16 adr v).pc = s.pc := rfl
@[simp] theorem write16_fault (adr : Word) (v : Word) : (s.write16 adr v).fault = s.fault := rfl

/-! ## `s.push16 v` -/

@[simp] theorem push16_a (v : Word) : (s.push16 v).a = s.a := rfl
@[simp] theorem push16_f (v : Word) : (s.push16 v).f = s.f := rfl
@[simp] theorem push16_b (v : Word) : (s.push16 v).b = s.b := rfl
@[simp] theorem push16_c (v : Word) : (s.push16 v).c = s.c := rfl
@[simp] theorem push16_d (v : Word) : (s.push16 v).d = s.d := rfl
@[simp] theorem push16_e (v : Word) : (s.push16 v).e = s.e := rfl
@[simp] theorem push16_h (v : Word) : (s.push16 v).h = s.h := rfl
@[simp] theorem push16_l (v : Word) : (s.push16 v).l = s.l := rfl
@[simp] theorem push16_pc (v : Word) : (s.push16 v).pc = s.pc := rfl
@[simp] theorem push16_fault (v : Word) : (s.push16 v).fault = s.fault := rfl

/-! ## `s.advance n` -/

@[simp] theorem advance_a (n : Word) : (s.advance n).a = s.a := rfl
@[simp] theorem advance_f (n : Word) : (s.advance n).f = s.f := rfl
@[simp] theorem advance_b (n : Word) : (s.advance n).b = s.b := rfl
@[simp] theorem advance_c (n : Word) : (s.advance n).c = s.c := rfl
@[simp] theorem advance_d (n : Word) : (s.advance n).d = s.d := rfl
@[simp] theorem advance_e (n : Word) : (s.advance n).e = s.e := rfl
@[simp] theorem advance_h (n : Word) : (s.advance n).h = s.h := rfl
@[simp] theorem advance_l (n : Word) : (s.advance n).l = s.l := rfl
@[simp] theorem advance_sp (n : Word) : (s.advance n).sp = s.sp := rfl
@[simp] theorem advance_mem (n : Word) : (s.advance n).mem = s.mem := rfl
@[simp] theorem advance_fault (n : Word) : (s.advance n).fault = s.fault := rfl

/-! ## `s.jump n` -/

@[simp] theorem jump_a (n : Word) : (s.jump n).a = s.a := rfl
@[simp] theorem jump_f (n : Word) : (s.jump n).f = s.f := rfl
@[simp] theorem jump_b (n : Word) : (s.jump n).b = s.b := rfl
@[simp] theorem jump_c (n : Word) : (s.jump n).c = s.c := rfl
@[simp] theorem jump_d (n : Word) : (s.jump n).d = s.d := rfl
@[simp] theorem jump_e (n : Word) : (s.jump n).e = s.e := rfl
@[simp] theorem jump_h (n : Word) : (s.jump n).h = s.h := rfl
@[simp] theorem jump_l (n : Word) : (s.jump n).l = s.l := rfl
@[simp] theorem jump_sp (n : Word) : (s.jump n).sp = s.sp := rfl
@[simp] theorem jump_mem (n : Word) : (s.jump n).mem = s.mem := rfl
@[simp] theorem jump_fault (n : Word) : (s.jump n).fault = s.fault := rfl

/-! ## `s.setFlagTo x v` -/

@[simp] theorem setFlagTo_a (x : Flag) (v : Bool) : (s.setFlagTo x v).a = s.a := rfl
@[simp] theorem setFlagTo_b (x : Flag) (v : Bool) : (s.setFlagTo x v).b = s.b := rfl
@[simp] theorem setFlagTo_c (x : Flag) (v : Bool) : (s.setFlagTo x v).c = s.c := rfl
@[simp] theorem setFlagTo_d (x : Flag) (v : Bool) : (s.setFlagTo x v).d = s.d := rfl
@[simp] theorem setFlagTo_e (x : Flag) (v : Bool) : (s.setFlagTo x v).e = s.e := rfl
@[simp] theorem setFlagTo_h (x : Flag) (v : Bool) : (s.setFlagTo x v).h = s.h := rfl
@[simp] theorem setFlagTo_l (x : Flag) (v : Bool) : (s.setFlagTo x v).l = s.l := rfl
@[simp] theorem setFlagTo_sp (x : Flag) (v : Bool) : (s.setFlagTo x v).sp = s.sp := rfl
@[simp] theorem setFlagTo_pc (x : Flag) (v : Bool) : (s.setFlagTo x v).pc = s.pc := rfl
@[simp] theorem setFlagTo_mem (x : Flag) (v : Bool) : (s.setFlagTo x v).mem = s.mem := rfl
@[simp] theorem setFlagTo_fault (x : Flag) (v : Bool) : (s.setFlagTo x v).fault = s.fault := rfl

/-! ## `s.flags z n h c` -/

@[simp] theorem flags_a (z n h c : Option Bool) : (s.flags z n h c).a = s.a := rfl
@[simp] theorem flags_b (z n h c : Option Bool) : (s.flags z n h c).b = s.b := rfl
@[simp] theorem flags_c (z n h c : Option Bool) : (s.flags z n h c).c = s.c := rfl
@[simp] theorem flags_d (z n h c : Option Bool) : (s.flags z n h c).d = s.d := rfl
@[simp] theorem flags_e (z n h c : Option Bool) : (s.flags z n h c).e = s.e := rfl
@[simp] theorem flags_h (z n h c : Option Bool) : (s.flags z n h c).h = s.h := rfl
@[simp] theorem flags_l (z n h c : Option Bool) : (s.flags z n h c).l = s.l := rfl
@[simp] theorem flags_sp (z n h c : Option Bool) : (s.flags z n h c).sp = s.sp := rfl
@[simp] theorem flags_pc (z n h c : Option Bool) : (s.flags z n h c).pc = s.pc := rfl
@[simp] theorem flags_mem (z n h c : Option Bool) : (s.flags z n h c).mem = s.mem := rfl
@[simp] theorem flags_fault (z n h c : Option Bool) : (s.flags z n h c).fault = s.fault := rfl

/-! ## `s.logicFlags v h` -/

@[simp] theorem logicFlags_a (v : Byte) (h : Bool) : (s.logicFlags v h).a = s.a := rfl
@[simp] theorem logicFlags_b (v : Byte) (h : Bool) : (s.logicFlags v h).b = s.b := rfl
@[simp] theorem logicFlags_c (v : Byte) (h : Bool) : (s.logicFlags v h).c = s.c := rfl
@[simp] theorem logicFlags_d (v : Byte) (h : Bool) : (s.logicFlags v h).d = s.d := rfl
@[simp] theorem logicFlags_e (v : Byte) (h : Bool) : (s.logicFlags v h).e = s.e := rfl
@[simp] theorem logicFlags_h (v : Byte) (h : Bool) : (s.logicFlags v h).h = s.h := rfl
@[simp] theorem logicFlags_l (v : Byte) (h : Bool) : (s.logicFlags v h).l = s.l := rfl
@[simp] theorem logicFlags_sp (v : Byte) (h : Bool) : (s.logicFlags v h).sp = s.sp := rfl
@[simp] theorem logicFlags_pc (v : Byte) (h : Bool) : (s.logicFlags v h).pc = s.pc := rfl
@[simp] theorem logicFlags_mem (v : Byte) (h : Bool) : (s.logicFlags v h).mem = s.mem := rfl
@[simp] theorem logicFlags_fault (v : Byte) (h : Bool) : (s.logicFlags v h).fault = s.fault := rfl

/-! ## `s.raiseUnknownInstruction op adr` -/

@[simp] theorem raise_a (op : Byte) (adr : Word) : (s.raiseUnknownInstruction op adr).a = s.a := rfl
@[simp] theorem raise_f (op : Byte) (adr : Word) : (s.raiseUnknownInstruction op adr).f = s.f := rfl
@[simp] theorem raise_b (op : Byte) (adr : Word) : (s.raiseUnknownInstruction op adr).b = s.b := rfl
@[simp] theorem raise_c (op : Byte) (adr : Word) : (s.raiseUnknownInstruction op adr).c = s.c := rfl
@[simp] theorem raise_d (op : Byte) (adr : Word) : (s.raiseUnknownInstruction op adr).d = s.d := rfl
@[simp] theorem raise_e (op : Byte) (adr : Word) : (s.raiseUnknownInstruction op adr).e = s.e := rfl
@[simp] theorem raise_h (op : Byte) (adr : Word) : (s.raiseUnknownInstruction op adr).h = s.h := rfl
@[simp] theorem raise_l (op : Byte) (adr : Word) : (s.raiseUnknownInstruction op adr).l = s.l := rfl
@[simp] theorem raise_sp (op : Byte) (adr : Word) : (s.raiseUnknownInstruction op adr).sp = s.sp := rfl
@[simp] theorem raise_pc (op : Byte) (adr : Word) : (s.raiseUnknownInstruction op adr).pc = s.pc := rfl
@[simp] theorem raise_mem (op : Byte) (adr : Word) : (s.raiseUnknownInstruction op adr).mem = s.mem := rfl

/-! ## The fields that are written -/

@[simp] theorem advance_pc (n : Word) : (s.advance n).pc = s.pc + n := rfl
@[simp] theorem jump_pc (n : Word) : (s.jump n).pc = n := rfl
@[simp] theorem raise_fault (op : Byte) (adr : Word) :
    (s.raiseUnknownInstruction op adr).fault = some { opcode := op, addr := adr } := rfl
@[simp] theorem write8_mem (adr : Word) (v : Byte) :
    (s.write8 adr v).mem = Memory.write s.mem adr.toNat v := rfl
@[simp] theorem push16_sp (v : Word) : (s.push16 v).sp = s.sp - 1 - 1 := rfl
@[simp] theorem pop16_snd : s.pop16.2 = { s with sp := s.sp + 2 } := rfl
@[simp] theorem setFlagTo_f (x : Flag) (v : Bool) : (s.setFlagTo x v).f = withFlag s.f x v := rfl

/-- A register read after a register write: the value where it is that register, else as before. -/
@[simp] theorem setReg_reg (r q : Reg8) (v : Byte) :
    (s.setReg r v).reg q = if q = r then v else s.reg q := by
  cases r <;> cases q <;> rfl

/-! ## Reads that an update does not concern -/

@[simp] theorem setReg_read8 (r : Reg8) (v : Byte) (q : Word) :
    (s.setReg r v).read8 q = s.read8 q := by
  unfold State.read8; simp
@[simp] theorem setReg_flag (r : Reg8) (v : Byte) (y : Flag) :
    (s.setReg r v).flag y = s.flag y := by
  unfold State.flag; simp
@[simp] theorem setPair_read8 (p : Pair) (n : Word) (q : Word) :
    (s.setPair p n).read8 q = s.read8 q := by
  unfold State.read8; simp
@[simp] theorem setReg16_read8 (p : Reg16) (n : Word) (q : Word) :
    (s.setReg16 p n).read8 q = s.read8 q := by
  unfold State.read8; simp
@[simp] theorem setReg16_flag (p : Reg16) (n : Word) (y : Flag) :
    (s.setReg16 p n).flag y = s.flag y := by
  unfold State.flag; simp
@[simp] theorem write8_reg (adr : Word) (v : Byte) (r : Reg8) : (s.write8 adr v).reg r = s.reg r := by
  cases r <;> rfl
@[simp] theorem write8_pair (adr : Word) (v : Byte) (p : Pair) : (s.write8 adr v).pair p = s.pair p := by
  cases p <;> rfl
@[simp] theorem write8_flag (adr : Word) (v : Byte) (y : Flag) :
    (s.write8 adr v).flag y = s.flag y := rfl
@[simp] theorem write16_reg (adr : Word) (v : Word) (r : Reg8) : (s.write16 adr v).reg r = s.reg r := by
  cases r <;> rfl
@[simp] theorem write16_pair (adr : Word) (v : Word) (p : Pair) : (s.write16 adr v).pair p = s.pair p := by
  cases p <;> rfl
@[simp] theorem write16_flag (adr : Word) (v : Word) (y : Flag) :
    (s.write16 adr v).flag y = s.flag y := rfl
@[simp] theorem push16_reg (v : Word) (r : Reg8) : (s.push16 v).reg r = s.reg r := by
  cases r <;> rfl
@[simp] theorem push16_pair (v : Word) (p : Pair) : (s.push16 v).pair p = s.pair p := by
  cases p <;> rfl
@[simp] theorem push16_flag (v : Word) (y : Flag) :
    (s.push16 v).flag y = s.flag y := rfl
@[simp] theorem advance_reg (n : Word) (r : Reg8) : (s.advance n).reg r = s.reg r := by
  cases r <;> rfl
@[simp] theorem advance_pair (n : Word) (p : Pair) : (s.advance n).pair p = s.pair p := by
  cases p <;> rfl
@[simp] theorem advance_read8 (n : Word) (q : Word) :
    (s.advance n).read8 q = s.read8 q := rfl
@[simp] theorem advance_flag (n : Word) (y : Flag) :
    (s.advance n).flag y = s.flag y := rfl
@[simp] theorem jump_reg (n : Word) (r : Reg8) : (s.jump n).reg r = s.reg r := by
  cases r <;> rfl
@[simp] theorem jump_pair (n : Word) (p : Pair) : (s.jump n).pair p = s.pair p := by
  cases p <;> rfl
@[simp] theorem jump_read8 (n : Word) (q : Word) :
    (s.jump n).read8 q = s.read8 q := rfl
@[simp] theorem jump_flag (n : Word) (y : Flag) :
    (s.jump n).flag y = s.flag y := rfl
@[simp] theorem setFlagTo_reg (x : Flag) (v : Bool) (r : Reg8) : (s.setFlagTo x v).reg r = s.reg r := by
  cases r <;> rfl
@[simp] theorem setFlagTo_pair_BC (x : Flag) (v : Bool) : (s.setFlagTo x v).pair .BC = s.pair .BC := rfl
@[simp] theorem setFlagTo_pair_DE (x : Flag) (v : Bool) : (s.setFlagTo x v).pair .DE = s.pair .DE := rfl
@[simp] theorem setFlagTo_pair_HL (x : Flag) (v : Bool) : (s.setFlagTo x v).pair .HL = s.pair .HL := rfl
@[simp] theorem setFlagTo_read8 (x : Flag) (v : Bool) (q : Word) :
    (s.setFlagTo x v).read8 q = s.read8 q := rfl
@[simp] theorem flags_reg (z n h c : Option Bool) (r : Reg8) : (s.flags z n h c).reg r = s.reg r := by
  cases r <;> rfl
@[simp] theorem flags_pair_BC (z n h c : Option Bool) : (s.flags z n h c).pair .BC = s.pair .BC := rfl
@[simp] theorem flags_pair_DE (z n h c : Option Bool) : (s.flags z n h c).pair .DE = s.pair .DE := rfl
@[simp] theorem flags_pair_HL (z n h c : Option Bool) : (s.flags z n h c).pair .HL = s.pair .HL := rfl
@[simp] theorem flags_read8 (z n h c : Option Bool) (q : Word) :
    (s.flags z n h c).read8 q = s.read8 q := rfl
@[simp] theorem logicFlags_reg (v : Byte) (h : Bool) (r : Reg8) : (s.logicFlags v h).reg r = s.reg r := by
  cases r <;> rfl
@[simp] theorem logicFlags_pair_BC (v : Byte) (h : Bool) : (s.logicFlags v h).pair .BC = s.pair .BC := rfl
@[simp] theorem logicFlags_pair_DE (v : Byte) (h : Bool) : (s.logicFlags v h).pair .DE = s.pair .DE := rfl
@[simp] theorem logicFlags_pair_HL (v : Byte) (h : Bool) : (s.logicFlags v h).pair .HL = s.pair .HL := rfl
@[simp] theorem logicFlags_read8 (v : Byte) (h : Bool) (q : Word) :
    (s.logicFlags v h).read8 q = s.read8 q := rfl
@[simp] theorem raise_reg (op : Byte) (adr : Word) (r : Reg8) : (s.raiseUnknownInstruction op adr).reg r = s.reg r := by
  cases r <;> rfl
@[simp] theorem raise_pair (op : Byte) (adr : Word) (p : Pair) : (s.raiseUnknownInstruction op adr).pair p = s.pair p := by
  cases p <;> rfl
@[simp] theorem raise_read8 (op : Byte) (adr : Word) (q : Word) :
    (s.raiseUnknownInstruction op adr).read8 q = s.read8 q := rfl
@[simp] theorem raise_flag (op : Byte) (adr : Word) (y : Flag) :
    (s.raiseUnknownInstruction op adr).flag y = s.flag y := rfl

end Sys2Proof.Machine
end

