-- ==== Sys2Proof/Laws/Flags.lean ====
section
/-! SUPPORT. The laws of the byte helpers and of the flag unit (spec/00_scope.md R9; spec/10_state.md
R27): each flag write changes its own bit and no other. -/

namespace Sys2Proof

/-! ## Halves of a word -/

@[simp] theorem hiByte_joinBytes (hi lo : Byte) : hiByte (joinBytes hi lo) = hi := by
  unfold hiByte joinBytes
  ext k hk
  simp only [BitVec.getElem_extractLsb', BitVec.getLsbD_append]
  simp [hk]

@[simp] theorem loByte_joinBytes (hi lo : Byte) : loByte (joinBytes hi lo) = lo := by
  unfold loByte joinBytes
  ext k hk
  simp only [BitVec.getElem_extractLsb', BitVec.getLsbD_append]
  simp [hk]

@[simp] theorem joinBytes_hiByte_loByte (v : Word) : joinBytes (hiByte v) (loByte v) = v := by
  unfold joinBytes hiByte loByte
  ext k hk
  simp only [BitVec.getElem_append, BitVec.getElem_extractLsb']
  split
  · rw [Nat.zero_add, BitVec.getLsbD_eq_getElem]
  · rw [show 8 + (k - 8) = k by omega, BitVec.getLsbD_eq_getElem]

namespace Machine

/-! ## Writing one flag -/

/-- Bit `k` of a flag byte after one flag write. -/
theorem withFlag_getLsbD (f : Byte) (x : Flag) (v : Bool) (k : Nat) :
    (withFlag f x v).getLsbD k = if k = flagBit x then v else f.getLsbD k := by
  have small : flagBit x < 8 := by cases x <;> decide
  by_cases eq : k = flagBit x
  · subst eq
    cases v <;> simp [withFlag, small]
  · by_cases lt : k < 8
    · have : ¬ (k - flagBit x = 0 ∧ flagBit x ≤ k) := by omega
      cases v <;> simp [withFlag, eq, lt] <;> omega
    · simp [eq, BitVec.getLsbD_of_ge _ _ (Nat.le_of_not_lt lt)]

@[simp] theorem flagOf_withFlag (f : Byte) (x y : Flag) (v : Bool) :
    flagOf (withFlag f x v) y = if y = x then v else flagOf f y := by
  have inj : (flagBit y = flagBit x) ↔ y = x := by cases x <;> cases y <;> decide
  simp [flagOf, withFlag_getLsbD, inj]

/-- The low nibble is touched by no flag write (R26). -/
@[simp] theorem withFlag_lowNibble (f : Byte) (x : Flag) (v : Bool) :
    withFlag f x v &&& 0x0F#8 = f &&& 0x0F#8 := by
  apply BitVec.eq_of_getLsbD_eq
  intro k hk
  simp only [BitVec.getLsbD_and, withFlag_getLsbD]
  split
  · rename_i eq
    subst eq
    have : (0x0F#8).getLsbD (flagBit x) = false := by cases x <;> decide
    simp [this]
  · rfl

/-! ## Writing several flags -/

@[simp] theorem withOptFlag_lowNibble (f : Byte) (x : Flag) (v : Option Bool) :
    withFlag? f x v &&& 0x0F#8 = f &&& 0x0F#8 := by
  cases v <;> simp [withFlag?]

@[simp] theorem flagOf_withOptFlag (f : Byte) (x y : Flag) (v : Option Bool) :
    flagOf (withFlag? f x v) y = if y = x then v.getD (flagOf f y) else flagOf f y := by
  cases v <;> simp [withFlag?]

theorem flags_f (s : State) (z n h c : Option Bool) :
    (s.flags z n h c).f
      = withFlag? (withFlag? (withFlag? (withFlag? s.f .Z z) .N n) .H h) .C c := rfl

@[simp] theorem flags_lowNibble (s : State) (z n h c : Option Bool) :
    (s.flags z n h c).f &&& 0x0F#8 = s.f &&& 0x0F#8 := by
  simp [flags_f]

@[simp] theorem flags_flag_Z (s : State) (z n h c : Option Bool) :
    (s.flags z n h c).flag .Z = z.getD (s.flag .Z) := by
  simp [State.flag, flags_f]

@[simp] theorem flags_flag_N (s : State) (z n h c : Option Bool) :
    (s.flags z n h c).flag .N = n.getD (s.flag .N) := by
  simp [State.flag, flags_f]

@[simp] theorem flags_flag_H (s : State) (z n h c : Option Bool) :
    (s.flags z n h c).flag .H = h.getD (s.flag .H) := by
  simp [State.flag, flags_f]

@[simp] theorem flags_flag_C (s : State) (z n h c : Option Bool) :
    (s.flags z n h c).flag .C = c.getD (s.flag .C) := by
  simp [State.flag, flags_f]

@[simp] theorem logicFlags_lowNibble (s : State) (v : Byte) (h : Bool) :
    (s.logicFlags v h).f &&& 0x0F#8 = s.f &&& 0x0F#8 := flags_lowNibble _ _ _ _ _

end Machine

end Sys2Proof
end

