-- ==== Sys2Proof/Laws/Memory.lean ====
section
/-! SUPPORT. The laws of the memory list: a byte reads back what was last written there, a write leaves
every other byte alone, and every operation keeps the canonical form. -/

namespace Sys2Proof.Machine

/-! ## The canonical form -/

theorem wfFrom_cons {lo k : Nat} {w : Byte} {rest : Memory} :
    Memory.wfFrom lo ((k, w) :: rest) = true ↔
      lo ≤ k ∧ k < Config.memorySize ∧ w ≠ 0x00#8 ∧ Memory.wfFrom (k + 1) rest = true := by
  simp [Memory.wfFrom, and_assoc]

/-- A canonical memory is canonical from any lower address. -/
theorem wfFrom_mono {m : Memory} {lo lo' : Nat} (h : Memory.wfFrom lo m = true) (le : lo' ≤ lo) :
    Memory.wfFrom lo' m = true := by
  cases m with
  | nil => rfl
  | cons e rest =>
    obtain ⟨h1, h2⟩ := wfFrom_cons.1 h
    exact wfFrom_cons.2 ⟨le.trans h1, h2⟩

/-- Below the first listed address, a canonical memory reads as 0x00. -/
theorem read_below {m : Memory} {lo adr : Nat} (h : Memory.wfFrom lo m = true) (lt : adr < lo) :
    Memory.read m adr = 0x00#8 := by
  induction m generalizing lo with
  | nil => rfl
  | cons e rest ih =>
    obtain ⟨h1, _, _, h4⟩ := wfFrom_cons.1 h
    have ne : e.1 ≠ adr := by omega
    simpa [Memory.read, ne] using ih h4 (by omega)

/-! ## Read after write -/

/-- The byte written reads back, in a canonical memory. -/
theorem read_write_same_from {m : Memory} {lo adr : Nat} (v : Byte)
    (h : Memory.wfFrom lo m = true) : Memory.read (Memory.write m adr v) adr = v := by
  induction m generalizing lo with
  | nil => by_cases hv : v = 0x00#8 <;> simp [Memory.write, Memory.read, hv]
  | cons e rest ih =>
    obtain ⟨k, w⟩ := e
    obtain ⟨_, _, _, h4⟩ := wfFrom_cons.1 h
    by_cases lt : adr < k
    · by_cases hv : v = 0x00#8
      · have ne : k ≠ adr := by omega
        simpa [Memory.write, lt, hv, Memory.read, ne] using read_below h4 (by omega)
      · simp [Memory.write, lt, hv, Memory.read]
    · by_cases eq : adr = k
      · subst eq
        by_cases hv : v = 0x00#8
        · simpa [Memory.write, hv] using read_below h4 (by omega)
        · simp [Memory.write, hv, Memory.read]
      · have ne : k ≠ adr := fun h => eq h.symm
        simpa [Memory.write, lt, eq, Memory.read, ne] using ih h4

theorem read_write_same {m : Memory} (h : m.wf = true) (adr : Nat) (v : Byte) :
    Memory.read (Memory.write m adr v) adr = v :=
  read_write_same_from v h

/-- Every other byte reads as before, in any memory. -/
theorem read_write_other (m : Memory) {adr q : Nat} (v : Byte) (ne : q ≠ adr) :
    Memory.read (Memory.write m adr v) q = Memory.read m q := by
  have ne' : adr ≠ q := fun h => ne h.symm
  induction m with
  | nil => by_cases hv : v = 0x00#8 <;> simp [Memory.write, Memory.read, hv, ne']
  | cons e rest ih =>
    obtain ⟨k, w⟩ := e
    by_cases lt : adr < k
    · by_cases hv : v = 0x00#8 <;> simp [Memory.write, lt, hv, Memory.read, ne']
    · by_cases eq : adr = k
      · subst eq
        by_cases hv : v = 0x00#8 <;> simp [Memory.write, hv, Memory.read, ne']
      · simp [Memory.write, lt, eq, Memory.read, ih]

/-! ## Writing keeps the canonical form -/

theorem write_wfFrom {m : Memory} {lo adr : Nat} (v : Byte) (h : Memory.wfFrom lo m = true)
    (le : lo ≤ adr) (lt : adr < Config.memorySize) :
    Memory.wfFrom lo (Memory.write m adr v) = true := by
  induction m generalizing lo with
  | nil => by_cases hv : v = 0x00#8 <;> simp [Memory.write, Memory.wfFrom, hv, le, lt]
  | cons e rest ih =>
    obtain ⟨k, w⟩ := e
    obtain ⟨h1, h2, h3, h4⟩ := wfFrom_cons.1 h
    by_cases below : adr < k
    · by_cases hv : v = 0x00#8
      · simpa [Memory.write, below, hv] using h
      · simp only [Memory.write, below, hv, if_true, if_false]
        exact wfFrom_cons.2 ⟨le, lt, hv, wfFrom_cons.2 ⟨below, h2, h3, h4⟩⟩
    · by_cases eq : adr = k
      · subst eq
        by_cases hv : v = 0x00#8
        · simpa [Memory.write, hv] using wfFrom_mono h4 (by omega)
        · simp only [Memory.write, lt_irrefl, hv, if_true, if_false]
          exact wfFrom_cons.2 ⟨h1, h2, hv, h4⟩
      · simp only [Memory.write, below, eq, if_false]
        exact wfFrom_cons.2 ⟨h1, h2, h3, ih h4 (by omega)⟩

theorem write_wf {m : Memory} (h : m.wf = true) {adr : Nat} (v : Byte) (lt : adr < 65536) :
    Memory.wf (Memory.write m adr v) = true :=
  write_wfFrom v h (Nat.zero_le _) lt

theorem writeRange_wf {m : Memory} (h : m.wf = true) {i : Nat} {data : List Byte}
    (fits : i + data.length ≤ 65536) : Memory.wf (Memory.writeRange m i data) = true := by
  induction data generalizing m i with
  | nil => exact h
  | cons v rest ih =>
    simp only [List.length_cons] at fits
    exact ih (write_wf h v (by omega)) (by omega)

theorem reset_mem_wf : State.reset.mem.wf = true := rfl

/-! ## On the state -/

/-- The address of a word is inside the array (R55). -/
theorem word_lt (adr : Word) : adr.toNat < 65536 := adr.isLt

theorem write8_wf {s : State} (h : s.mem.wf = true) (adr : Word) (v : Byte) :
    (s.write8 adr v).mem.wf = true := write_wf h v (word_lt adr)

theorem write16_wf {s : State} (h : s.mem.wf = true) (adr v : Word) :
    (s.write16 adr v).mem.wf = true := write8_wf (write8_wf h _ _) _ _

theorem push_wf {s : State} (h : s.mem.wf = true) (data : List Byte) :
    (s.push data).mem.wf = true := by
  induction data generalizing s with
  | nil => exact h
  | cons v rest ih => exact ih (write_wf h v (word_lt s.sp))

theorem push16_wf {s : State} (h : s.mem.wf = true) (v : Word) :
    (s.push16 v).mem.wf = true := push_wf h _

/-- `MemRead` after `MemWrite` at the same address (R50, R51). -/
theorem write8_read8_same {s : State} (h : s.mem.wf = true) (adr : Word) (v : Byte) :
    (s.write8 adr v).read8 adr = v := read_write_same h adr.toNat v

/-- `MemWrite` "changes no other byte" (R51). -/
theorem write8_read8_other (s : State) {adr q : Word} (v : Byte) (ne : q ≠ adr) :
    (s.write8 adr v).read8 q = s.read8 q :=
  read_write_other s.mem v fun h => ne (BitVec.eq_of_toNat_eq h)

/-! ## 16-bit accesses and the stack: what one of them can do -/

/-- A word and its successor are different addresses (R53: "the two addresses always differ"). -/
theorem word_ne_succ (adr : Word) : adr ≠ adr + 1 := by
  intro h
  have e : adr.toNat = (adr.toNat + 1) % 65536 := congrArg BitVec.toNat h
  have := word_lt adr
  omega

theorem word_pred_ne (adr : Word) : adr - 1 ≠ adr := by
  intro h
  exact word_ne_succ (adr - 1) (by rw [BitVec.sub_add_cancel]; exact h)

theorem write16_read8_low {s : State} (h : s.mem.wf = true) (adr v : Word) :
    (s.write16 adr v).read8 adr = loByte v := by
  rw [State.write16, write8_read8_other _ _ (word_ne_succ adr), write8_read8_same h]

theorem write16_read8_high {s : State} (h : s.mem.wf = true) (adr v : Word) :
    (s.write16 adr v).read8 (adr + 1) = hiByte v :=
  write8_read8_same (write8_wf h _ _) _ _

theorem write16_read8_other (s : State) {adr q : Word} (v : Word) (ne : q ≠ adr)
    (ne' : q ≠ adr + 1) : (s.write16 adr v).read8 q = s.read8 q := by
  rw [State.write16, write8_read8_other _ _ ne', write8_read8_other _ _ ne]

/-- `push16` in terms of byte writes (R58). -/
theorem push16_mem (s : State) (v : Word) :
    (s.push16 v).mem
      = Memory.write (Memory.write s.mem s.sp.toNat (hiByte v)) (s.sp - 1).toNat (loByte v) := rfl

theorem push16_read8_high {s : State} (h : s.mem.wf = true) (v : Word) :
    (s.push16 v).read8 s.sp = hiByte v := by
  have ne : s.sp.toNat ≠ (s.sp - 1).toNat := fun e =>
    word_pred_ne s.sp (BitVec.eq_of_toNat_eq e).symm
  rw [State.read8, push16_mem, read_write_other _ _ ne, read_write_same h]

theorem push16_read8_low {s : State} (h : s.mem.wf = true) (v : Word) :
    (s.push16 v).read8 (s.sp - 1) = loByte v := by
  rw [State.read8, push16_mem, read_write_same (write_wf h _ (word_lt s.sp))]

theorem push16_read8_other (s : State) {q : Word} (v : Word) (ne : q ≠ s.sp)
    (ne' : q ≠ s.sp - 1) : (s.push16 v).read8 q = s.read8 q := by
  rw [State.read8, push16_mem,
    read_write_other _ _ fun e => ne' (BitVec.eq_of_toNat_eq e),
    read_write_other _ _ fun e => ne (BitVec.eq_of_toNat_eq e)]
  rfl

end Sys2Proof.Machine
end

