-- ==== Sys2Proof/Laws/Ops.lean ====
section
/-! SUPPORT. What each shared operation can do, said once: the state it answers, field by field. A proof
about an instruction cites the lemma of its operation and does not unfold it. -/

namespace Sys2Proof.Machine

/-! ## The arithmetic helpers -/

theorem add8_result (x y : Byte) (cin : Bool) :
    (add8 x y cin).result = x + y + (if cin then 1 else 0) := by
  apply BitVec.eq_of_toNat_eq
  cases cin <;> simp [add8, Nat.add_mod]

theorem add8_z (x y : Byte) (cin : Bool) :
    (add8 x y cin).z = decide (x + y + (if cin then 1 else 0) = 0) := by
  rw [← add8_result]
  have : (add8 x y cin).result = 0 ↔ (x.toNat + y.toNat + cin.toNat) % 256 = 0 := by
    rw [← BitVec.toNat_inj]
    simp [add8]
  simp only [this]
  rfl

theorem sub8_z (x y : Byte) : (sub8 x y).z = decide (x = y) := by
  have : x - y = 0 ↔ x = y := by
    rw [← BitVec.toNat_inj, ← BitVec.toNat_inj, BitVec.toNat_sub]
    have := x.isLt
    have := y.isLt
    simp
    omega
  simp only [sub8, this]

theorem add16_result (x y : Word) : (add16 x y).result = x + y := by
  apply BitVec.eq_of_toNat_eq
  simp [add16]

theorem joinBytes_toNat (hi lo : Byte) :
    (joinBytes hi lo).toNat = hi.toNat * 256 + lo.toNat := by
  simp only [joinBytes, BitVec.toNat_append]
  rw [← Nat.shiftLeft_add_eq_or_of_lt lo.isLt, Nat.shiftLeft_eq]

/-- The two cases of R10's `sext_16`. -/
theorem sext16_toNat (e8 : Byte) :
    (sext16 e8).toNat = if e8.toNat < 0x80 then e8.toNat else 0xFF00 + e8.toNat := by
  have := e8.isLt
  rw [sext16, BitVec.toNat_signExtend]
  by_cases h : e8.toNat < 0x80
  · have hm : e8.msb = false := by rw [BitVec.msb_eq_decide]; simp; omega
    simp [h, hm]
    omega
  · have hm : e8.msb = true := by rw [BitVec.msb_eq_decide]; simp; omega
    simp [h, hm]
    omega

/-- `wrap16(next + signed8(e8))`, R198's form of the JR target. -/
theorem jrTarget_eq (s : State) (e8 : Byte) :
    jrTarget s e8 = BitVec.ofInt 16 (s.pc.toNat + 2 + e8.toInt) := by
  rw [jrTarget, sext16, BitVec.signExtend, BitVec.ofInt_add, BitVec.ofInt_add, BitVec.ofInt_natCast,
    BitVec.ofNat_toNat, BitVec.setWidth_eq]
  rfl

theorem rlca_result (x : Byte) : (x <<< 1) ||| (x >>> 7) = x.rotateLeft 1 := rfl

theorem rrca_result (x : Byte) : (x >>> 1) ||| (x <<< 7) = x.rotateRight 1 := rfl

/-! ## The pairs -/

@[simp] theorem setPair_pair (s : State) (p : Pair) (n : Word) : (s.setPair p n).pair p = n := by
  cases p <;> exact joinBytes_hiByte_loByte n

@[simp] theorem setReg16_reg16 (s : State) (p : Reg16) (n : Word) :
    (s.setReg16 p n).reg16 p = n := by
  cases p <;> first | exact joinBytes_hiByte_loByte n | rfl

/-- Writing HL leaves the five other registers. -/
theorem setPair_HL_reg (s : State) (n : Word) {r : Reg8} (h : r ∉ [Reg8.H, Reg8.L]) :
    (s.setPair .HL n).reg r = s.reg r := by
  cases r <;> first | rfl | simp at h

/-! ## Load and store -/

section
variable (s : State)

theorem loadRegReg_spec (d r : Reg8) : ∃ t, loadRegReg d r s = .next t ∧ t.reg d = s.reg r
    ∧ (∀ x, x ≠ d → t.reg x = s.reg x) ∧ t.mem = s.mem ∧ t.fault = s.fault ∧ t.f = s.f
    ∧ t.sp = s.sp ∧ t.pc = s.pc + 1 :=
  ⟨_, rfl, by simp, fun x h => by simp [h], by simp, by simp, by simp, by simp, by simp⟩

theorem loadRegFrom_spec (d : Reg8) (adr len : Word) : ∃ t, loadRegFrom d adr len s = .next t
    ∧ t.reg d = s.read8 adr ∧ (∀ x, x ≠ d → t.reg x = s.reg x) ∧ t.mem = s.mem
    ∧ t.fault = s.fault ∧ t.f = s.f ∧ t.sp = s.sp ∧ t.pc = s.pc + len :=
  ⟨_, rfl, by simp, fun x h => by simp [h], by simp, by simp, by simp, by simp, by simp⟩

theorem loadRegImm_spec (d : Reg8) (d8 : Byte) : ∃ t, loadRegImm d d8 s = .next t ∧ t.reg d = d8
    ∧ (∀ x, x ≠ d → t.reg x = s.reg x) ∧ t.mem = s.mem ∧ t.fault = s.fault ∧ t.f = s.f
    ∧ t.sp = s.sp ∧ t.pc = s.pc + 2 :=
  ⟨_, rfl, by simp, fun x h => by simp [h], by simp, by simp, by simp, by simp, by simp⟩

theorem storeByteAt_spec (adr : Word) (v : Byte) (len : Word) : ∃ t,
    storeByteAt adr v len s = .next t ∧ (s.mem.wf = true → t.read8 adr = v)
    ∧ (∀ q, q ≠ adr → t.read8 q = s.read8 q) ∧ (∀ x, t.reg x = s.reg x) ∧ t.fault = s.fault
    ∧ t.f = s.f ∧ t.sp = s.sp ∧ t.pc = s.pc + len :=
  ⟨_, rfl, fun h => write8_read8_same h adr v, fun _ h => write8_read8_other s v h,
    fun x => by simp, rfl, rfl, rfl, rfl⟩

theorem loadAThenSetHl_spec (n : Word) : ∃ t, loadAThenSetHl n s = .next t
    ∧ t.a = s.read8 (s.pair .HL) ∧ t.pair .HL = n
    ∧ (∀ x, x ∉ [Reg8.A, .H, .L] → t.reg x = s.reg x) ∧ t.mem = s.mem ∧ t.fault = s.fault
    ∧ t.f = s.f ∧ t.sp = s.sp ∧ t.pc = s.pc + 1 :=
  ⟨_, rfl, rfl, joinBytes_hiByte_loByte n, fun x h => by cases x <;> first | rfl | simp at h,
    rfl, rfl, rfl, rfl, rfl⟩

theorem storeAThenSetHl_spec (n : Word) : ∃ t, storeAThenSetHl n s = .next t
    ∧ (s.mem.wf = true → t.read8 (s.pair .HL) = s.a)
    ∧ (∀ q, q ≠ s.pair .HL → t.read8 q = s.read8 q) ∧ t.pair .HL = n
    ∧ (∀ x, x ∉ [Reg8.H, .L] → t.reg x = s.reg x) ∧ t.fault = s.fault ∧ t.f = s.f ∧ t.sp = s.sp
    ∧ t.pc = s.pc + 1 :=
  ⟨_, rfl, fun h => write8_read8_same h _ s.a, fun _ h => write8_read8_other s s.a h,
    joinBytes_hiByte_loByte n, fun x h => by cases x <;> first | rfl | simp at h, rfl, rfl, rfl, rfl⟩

/-! ## Arithmetic and logic on A -/

theorem addA_spec (src : AluSrc) : ∃ t, addA src s = .next t
    ∧ t.a = s.a + s.aluOperand src ∧ t.flag .Z = decide (s.a + s.aluOperand src = 0)
    ∧ t.flag .N = false
    ∧ t.flag .H = decide (0x0F < s.a.toNat % 16 + (s.aluOperand src).toNat % 16)
    ∧ t.flag .C = decide (0xFF < s.a.toNat + (s.aluOperand src).toNat)
    ∧ t.f &&& 0x0F#8 = s.f &&& 0x0F#8 ∧ (∀ x, x ≠ .A → t.reg x = s.reg x) ∧ t.mem = s.mem
    ∧ t.fault = s.fault ∧ t.sp = s.sp ∧ t.pc = s.pc + aluLength src :=
  ⟨_, rfl, (add8_result _ _ _).trans (by simp), by simp [add8_z], by simp, by simp [add8],
    by simp [add8], by simp, fun x h => by simp [h], by simp, by simp, by simp, by simp⟩

theorem adcA_spec (src : AluSrc) : ∃ t, adcA src s = .next t
    ∧ t.a = s.a + s.aluOperand src + (if s.flag .C then 1 else 0)
    ∧ t.flag .Z = decide (s.a + s.aluOperand src + (if s.flag .C then 1 else 0) = 0)
    ∧ t.flag .N = false
    ∧ t.flag .H
        = decide (0x0F < s.a.toNat % 16 + (s.aluOperand src).toNat % 16 + (s.flag .C).toNat)
    ∧ t.flag .C = decide (0xFF < s.a.toNat + (s.aluOperand src).toNat + (s.flag .C).toNat)
    ∧ t.f &&& 0x0F#8 = s.f &&& 0x0F#8 ∧ (∀ x, x ≠ .A → t.reg x = s.reg x) ∧ t.mem = s.mem
    ∧ t.fault = s.fault ∧ t.sp = s.sp ∧ t.pc = s.pc + aluLength src :=
  ⟨_, rfl, add8_result _ _ _, by simp [add8_z], by simp, by simp [add8], by simp [add8], by simp,
    fun x h => by simp [h], by simp, by simp, by simp, by simp⟩

theorem subA_spec (src : AluSrc) : ∃ t, subA src s = .next t
    ∧ t.a = s.a - s.aluOperand src ∧ t.flag .Z = decide (s.a = s.aluOperand src)
    ∧ t.flag .N = true
    ∧ t.flag .H = decide (s.a.toNat % 16 < (s.aluOperand src).toNat % 16)
    ∧ t.flag .C = decide (s.a.toNat < (s.aluOperand src).toNat)
    ∧ t.f &&& 0x0F#8 = s.f &&& 0x0F#8 ∧ (∀ x, x ≠ .A → t.reg x = s.reg x) ∧ t.mem = s.mem
    ∧ t.fault = s.fault ∧ t.sp = s.sp ∧ t.pc = s.pc + aluLength src :=
  ⟨_, rfl, rfl, by simp [sub8_z], by simp, by simp [sub8], by simp [sub8], by simp,
    fun x h => by simp [h], by simp, by simp, by simp, by simp⟩

theorem cpA_spec (src : AluSrc) : ∃ t, cpA src s = .next t
    ∧ t.flag .Z = decide (s.a = s.aluOperand src) ∧ t.flag .N = true
    ∧ t.flag .H = decide (s.a.toNat % 16 < (s.aluOperand src).toNat % 16)
    ∧ t.flag .C = decide (s.a.toNat < (s.aluOperand src).toNat)
    ∧ t.f &&& 0x0F#8 = s.f &&& 0x0F#8 ∧ (∀ x, t.reg x = s.reg x) ∧ t.mem = s.mem
    ∧ t.fault = s.fault ∧ t.sp = s.sp ∧ t.pc = s.pc + aluLength src :=
  ⟨_, rfl, by simp [sub8_z], by simp, by simp [sub8], by simp [sub8], by simp,
    fun x => by simp, by simp, by simp, by simp, by simp⟩

/-- What AND, XOR and OR share: the result goes to A, the flags follow it. -/
theorem logicResult_spec (v : Byte) (h : Bool) (len : Word) :
    let t := ((s.setReg .A v).logicFlags v h).advance len
    t.a = v ∧ t.flag .Z = decide (v = 0) ∧ t.flag .N = false ∧ t.flag .H = h ∧ t.flag .C = false
    ∧ t.f &&& 0x0F#8 = s.f &&& 0x0F#8 ∧ (∀ x, x ≠ .A → t.reg x = s.reg x) ∧ t.mem = s.mem
    ∧ t.fault = s.fault ∧ t.sp = s.sp ∧ t.pc = s.pc + len :=
  ⟨rfl, by simp [State.logicFlags], by simp [State.logicFlags], by simp [State.logicFlags],
    by simp [State.logicFlags], by simp, fun x h => by simp [h], by simp, by simp, by simp, by simp⟩

theorem andA_eq (src : AluSrc) : andA src s = .next (((s.setReg .A (s.a &&& s.aluOperand src)).logicFlags
    (s.a &&& s.aluOperand src) true).advance (aluLength src)) := rfl

theorem xorA_eq (src : AluSrc) : xorA src s = .next (((s.setReg .A (s.a ^^^ s.aluOperand src)).logicFlags
    (s.a ^^^ s.aluOperand src) false).advance (aluLength src)) := rfl

theorem orA_eq (src : AluSrc) : orA src s = .next (((s.setReg .A (s.a ||| s.aluOperand src)).logicFlags
    (s.a ||| s.aluOperand src) false).advance (aluLength src)) := rfl

/-! ## INC, DEC, ADD HL -/

theorem incReg8_spec (r : Reg8) : ∃ t, incReg8 inc8Dec8WriteCarry r s = .next t
    ∧ t.reg r = s.reg r + 1 ∧ t.flag .Z = decide (s.reg r + 1 = 0) ∧ t.flag .N = false
    ∧ t.flag .H = decide (0x0F < (s.reg r).toNat % 16 + 1) ∧ t.flag .C = s.flag .C
    ∧ t.f &&& 0x0F#8 = s.f &&& 0x0F#8 ∧ (∀ x, x ≠ r → t.reg x = s.reg x) ∧ t.mem = s.mem
    ∧ t.fault = s.fault ∧ t.sp = s.sp ∧ t.pc = s.pc + 1 :=
  ⟨_, rfl, by simp [add8_result], by simp [add8_z], by simp, by simp [add8],
    by simp [inc8Dec8WriteCarry, writtenIf], by simp, fun x h => by simp [h], by simp, by simp,
    by simp, by simp⟩

theorem decReg8_spec (r : Reg8) : ∃ t, decReg8 inc8Dec8WriteCarry r s = .next t
    ∧ t.reg r = s.reg r - 1 ∧ t.flag .Z = decide (s.reg r = 1) ∧ t.flag .N = true
    ∧ t.flag .H = decide ((s.reg r).toNat % 16 < 1) ∧ t.flag .C = s.flag .C
    ∧ t.f &&& 0x0F#8 = s.f &&& 0x0F#8 ∧ (∀ x, x ≠ r → t.reg x = s.reg x) ∧ t.mem = s.mem
    ∧ t.fault = s.fault ∧ t.sp = s.sp ∧ t.pc = s.pc + 1 :=
  ⟨_, rfl, by simp [sub8], by simp [sub8_z], by simp, by simp [sub8],
    by simp [inc8Dec8WriteCarry, writtenIf], by simp, fun x h => by simp [h], by simp, by simp,
    by simp, by simp⟩

theorem incAtHl_spec : ∃ t, incAtHl inc8Dec8WriteCarry s = .next t
    ∧ (s.mem.wf = true → t.read8 (s.pair .HL) = s.read8 (s.pair .HL) + 1)
    ∧ (∀ q, q ≠ s.pair .HL → t.read8 q = s.read8 q)
    ∧ t.flag .Z = decide (s.read8 (s.pair .HL) + 1 = 0) ∧ t.flag .N = false
    ∧ t.flag .H = decide (0x0F < (s.read8 (s.pair .HL)).toNat % 16 + 1) ∧ t.flag .C = s.flag .C
    ∧ t.f &&& 0x0F#8 = s.f &&& 0x0F#8 ∧ (∀ x, t.reg x = s.reg x) ∧ t.fault = s.fault
    ∧ t.sp = s.sp ∧ t.pc = s.pc + 1 :=
  ⟨_, rfl, fun h => (write8_read8_same h _ _).trans (by simp [add8_result]),
    fun _ h => write8_read8_other s _ h, by simp [add8_z], by simp, by simp [add8],
    by simp [inc8Dec8WriteCarry, writtenIf], by simp, fun x => by simp, by simp, by simp, by simp⟩

theorem decAtHl_spec : ∃ t, decAtHl inc8Dec8WriteCarry s = .next t
    ∧ (s.mem.wf = true → t.read8 (s.pair .HL) = s.read8 (s.pair .HL) - 1)
    ∧ (∀ q, q ≠ s.pair .HL → t.read8 q = s.read8 q)
    ∧ t.flag .Z = decide (s.read8 (s.pair .HL) = 1) ∧ t.flag .N = true
    ∧ t.flag .H = decide ((s.read8 (s.pair .HL)).toNat % 16 < 1) ∧ t.flag .C = s.flag .C
    ∧ t.f &&& 0x0F#8 = s.f &&& 0x0F#8 ∧ (∀ x, t.reg x = s.reg x) ∧ t.fault = s.fault
    ∧ t.sp = s.sp ∧ t.pc = s.pc + 1 :=
  ⟨_, rfl, fun h => (write8_read8_same h _ _).trans (by simp [sub8]),
    fun _ h => write8_read8_other s _ h, by simp [sub8_z], by simp, by simp [sub8],
    by simp [inc8Dec8WriteCarry, writtenIf], by simp, fun x => by simp, by simp, by simp, by simp⟩

theorem addToHl_spec (p : Reg16) : ∃ t, addToHl addHlWritesZero p s = .next t
    ∧ t.pair .HL = s.pair .HL + s.reg16 p ∧ t.flag .Z = s.flag .Z ∧ t.flag .N = false
    ∧ t.flag .H = decide (0x0FFF < (s.pair .HL).toNat % 4096 + (s.reg16 p).toNat % 4096)
    ∧ t.flag .C = decide (0xFFFF < (s.pair .HL).toNat + (s.reg16 p).toNat)
    ∧ t.f &&& 0x0F#8 = s.f &&& 0x0F#8 ∧ (∀ x, x ∉ [Reg8.H, .L] → t.reg x = s.reg x)
    ∧ t.mem = s.mem ∧ t.fault = s.fault ∧ t.sp = s.sp ∧ t.pc = s.pc + 1 :=
  ⟨_, rfl, (setPair_pair s .HL _).trans (add16_result _ _),
    (flags_flag_Z _ _ _ _ _).trans rfl, flags_flag_N _ _ _ _ _,
    flags_flag_H _ _ _ _ _, flags_flag_C _ _ _ _ _, flags_lowNibble _ _ _ _ _,
    fun x h => (by simp [setPair_HL_reg s _ h]), by simp, by simp, by simp, by simp⟩

/-! ## CALL, RET and the conditional transfers -/

theorem callTo_spec (target len : Word) :
    (s.callTo target len).pc = target ∧ (s.callTo target len).sp = s.sp - 2
    ∧ (s.mem.wf = true → (s.callTo target len).read8 s.sp = hiByte (s.pc + len)
      ∧ (s.callTo target len).read8 (s.sp - 1) = loByte (s.pc + len))
    ∧ (∀ q, q ≠ s.sp → q ≠ s.sp - 1 → (s.callTo target len).read8 q = s.read8 q)
    ∧ (∀ x, (s.callTo target len).reg x = s.reg x) ∧ (s.callTo target len).fault = s.fault
    ∧ (s.callTo target len).f = s.f :=
  ⟨rfl, BitVec.sub_sub s.sp 1 1, fun h => ⟨push16_read8_high h _, push16_read8_low h _⟩,
    fun _ h h' => push16_read8_other s _ h h', fun x => by cases x <;> rfl, rfl, rfl⟩

theorem returnFrom_spec :
    s.returnFrom = { s with sp := s.sp + 2,
                            pc := joinBytes (s.read8 (s.sp + 2)) (s.read8 (s.sp + 1)) } := rfl

theorem jpIf_spec (cc : Cond) (a16 : Word) : jpIf cc a16 s
    = .next { s with pc := if s.cond cc then a16 else s.pc + 3 } := by
  simp only [jpIf]; split <;> rfl

theorem jrIf_spec (cc : Cond) (e8 : Byte) : jrIf cc e8 s
    = .next { s with pc := if s.cond cc then jrTarget s e8 else s.pc + 2 } := by
  simp only [jrIf]; split <;> rfl

theorem callIf_spec (cc : Cond) (a16 : Word) : callIf cc a16 s
    = .next (if s.cond cc then s.callTo a16 3 else { s with pc := s.pc + 3 }) := rfl

theorem retIf_spec (cc : Cond) : retIf cc s
    = .next (if s.cond cc then s.returnFrom else { s with pc := s.pc + 1 }) := rfl

end

end Sys2Proof.Machine
end

