-- ==== Sys2Proof/Laws/Exec.lean ====
section
/-! SUPPORT. What `exec` does with the instructions of one pattern (spec/30_encoding.md R83), in terms of
the operation they share, and what `step` does with a live and with a latched state. -/

namespace Sys2Proof.Machine

variable (s : State)

/-! ## The patterns -/

theorem exec_ldRegReg (d r : Reg8) : exec (Instr.ldRegReg d r) s = loadRegReg d r s := by
  cases d <;> cases r <;> rfl

theorem exec_ldRegMem (d : Reg8) : exec (Instr.ldRegMem d) s = loadRegFrom d (s.pair .HL) 1 s := by
  cases d <;> rfl

theorem exec_ldMemReg (r : Reg8) :
    exec (Instr.ldMemReg r) s = storeByteAt (s.pair .HL) (s.reg r) 1 s := by
  cases r <;> rfl

theorem exec_ldRegImm (d : Reg8) (d8 : Byte) : exec (Instr.ldRegImm d d8) s = loadRegImm d d8 s := by
  cases d <;> rfl

theorem exec_ldPairImm (p : Reg16) (d16 : Word) :
    exec (Instr.ldPairImm p d16) s = loadReg16Imm p d16 s := by
  cases p <;> rfl

theorem exec_add (src : AluSrc) : exec (Instr.alu .add src) s = addA src s := by
  rcases src with r | _ | _ <;> first | (cases r <;> rfl) | rfl

theorem exec_adc (src : AluSrc) : exec (Instr.alu .adc src) s = adcA src s := by
  rcases src with r | _ | _ <;> first | (cases r <;> rfl) | rfl

theorem exec_sub (src : AluSrc) : exec (Instr.alu .sub src) s = subA src s := by
  rcases src with r | _ | _ <;> first | (cases r <;> rfl) | rfl

theorem exec_and (src : AluSrc) : exec (Instr.alu .and src) s = andA src s := by
  rcases src with r | _ | _ <;> first | (cases r <;> rfl) | rfl

theorem exec_xor (src : AluSrc) : exec (Instr.alu .xor src) s = xorA src s := by
  rcases src with r | _ | _ <;> first | (cases r <;> rfl) | rfl

theorem exec_or (src : AluSrc) : exec (Instr.alu .or src) s = orA src s := by
  rcases src with r | _ | _ <;> first | (cases r <;> rfl) | rfl

theorem exec_cp (src : AluSrc) : exec (Instr.alu .cp src) s = cpA src s := by
  rcases src with r | _ | _ <;> first | (cases r <;> rfl) | rfl

theorem exec_incReg (r : Reg8) : exec (Instr.incReg r) s = incReg8 inc8Dec8WriteCarry r s := by
  cases r <;> rfl

theorem exec_decReg (r : Reg8) : exec (Instr.decReg r) s = decReg8 inc8Dec8WriteCarry r s := by
  cases r <;> rfl

theorem exec_incReg16 (p : Reg16) : exec (Instr.incReg16 p) s = incReg16 p s := by
  cases p <;> rfl

theorem exec_decReg16 (p : Reg16) : exec (Instr.decReg16 p) s = decReg16 p s := by
  cases p <;> rfl

theorem exec_addHl (p : Reg16) : exec (Instr.addHl p) s = addToHl addHlWritesZero p s := by
  cases p <;> rfl

theorem exec_jpCond (cc : Cond) (a16 : Word) : exec (Instr.jpCond cc a16) s = jpIf cc a16 s := by
  cases cc <;> rfl

theorem exec_jrCond (cc : Cond) (e8 : Byte) : exec (Instr.jrCond cc e8) s = jrIf cc e8 s := by
  cases cc <;> rfl

theorem exec_callCond (cc : Cond) (a16 : Word) :
    exec (Instr.callCond cc a16) s = callIf cc a16 s := by
  cases cc <;> rfl

theorem exec_retCond (cc : Cond) : exec (Instr.retCond cc) s = retIf cc s := by
  cases cc <;> rfl

theorem exec_rst (ttt : Fin 8) :
    exec (Instr.rst ttt) s = rstTo (BitVec.ofNat 16 (ttt.val * 8)) s := by
  fin_cases ttt <;> rfl

/-! ## The step -/

variable {s}

theorem step_live (h : s.fault = none) : step s = exec s.fetch s := by rw [step, h]

theorem step_latched {r : FaultRecord} (h : s.fault = some r) :
    step s = .refused (.faultLatched r.opcode r.addr) := by rw [step, h]

/-- A step that answers a next state started from a live state. -/
theorem step_next {t : State} (h : step s = .next t) : s.fault = none ∧ exec s.fetch s = .next t := by
  cases hs : s.fault with
  | none => exact ⟨rfl, step_live hs ▸ h⟩
  | some r => rw [step_latched hs] at h; cases h

end Sys2Proof.Machine
end

