-- ==== Sys2Proof/Laws/PerInstr.lean ====
section
/-! SUPPORT. Statements made for each constructor of `Instr`. -/

namespace Sys2Proof.Laws.LengthByFirstByte

/-- R82: "The first byte alone decides": the first byte of the encoding gives its length. -/
def Statement (i : Instr) : Prop :=
  i.wf = true → (encode i).head?.map lengthOf = some (encode i).length

theorem ld_B_B : Statement .ld_B_B := fun _ => rfl
theorem ld_B_C : Statement .ld_B_C := fun _ => rfl
theorem ld_B_D : Statement .ld_B_D := fun _ => rfl
theorem ld_B_E : Statement .ld_B_E := fun _ => rfl
theorem ld_B_H : Statement .ld_B_H := fun _ => rfl
theorem ld_B_L : Statement .ld_B_L := fun _ => rfl
theorem ld_B_A : Statement .ld_B_A := fun _ => rfl
theorem ld_C_B : Statement .ld_C_B := fun _ => rfl
theorem ld_C_C : Statement .ld_C_C := fun _ => rfl
theorem ld_C_D : Statement .ld_C_D := fun _ => rfl
theorem ld_C_E : Statement .ld_C_E := fun _ => rfl
theorem ld_C_H : Statement .ld_C_H := fun _ => rfl
theorem ld_C_L : Statement .ld_C_L := fun _ => rfl
theorem ld_C_A : Statement .ld_C_A := fun _ => rfl
theorem ld_D_B : Statement .ld_D_B := fun _ => rfl
theorem ld_D_C : Statement .ld_D_C := fun _ => rfl
theorem ld_D_D : Statement .ld_D_D := fun _ => rfl
theorem ld_D_E : Statement .ld_D_E := fun _ => rfl
theorem ld_D_H : Statement .ld_D_H := fun _ => rfl
theorem ld_D_L : Statement .ld_D_L := fun _ => rfl
theorem ld_D_A : Statement .ld_D_A := fun _ => rfl
theorem ld_E_B : Statement .ld_E_B := fun _ => rfl
theorem ld_E_C : Statement .ld_E_C := fun _ => rfl
theorem ld_E_D : Statement .ld_E_D := fun _ => rfl
theorem ld_E_E : Statement .ld_E_E := fun _ => rfl
theorem ld_E_H : Statement .ld_E_H := fun _ => rfl
theorem ld_E_L : Statement .ld_E_L := fun _ => rfl
theorem ld_E_A : Statement .ld_E_A := fun _ => rfl
theorem ld_H_B : Statement .ld_H_B := fun _ => rfl
theorem ld_H_C : Statement .ld_H_C := fun _ => rfl
theorem ld_H_D : Statement .ld_H_D := fun _ => rfl
theorem ld_H_E : Statement .ld_H_E := fun _ => rfl
theorem ld_H_H : Statement .ld_H_H := fun _ => rfl
theorem ld_H_L : Statement .ld_H_L := fun _ => rfl
theorem ld_H_A : Statement .ld_H_A := fun _ => rfl
theorem ld_L_B : Statement .ld_L_B := fun _ => rfl
theorem ld_L_C : Statement .ld_L_C := fun _ => rfl
theorem ld_L_D : Statement .ld_L_D := fun _ => rfl
theorem ld_L_E : Statement .ld_L_E := fun _ => rfl
theorem ld_L_H : Statement .ld_L_H := fun _ => rfl
theorem ld_L_L : Statement .ld_L_L := fun _ => rfl
theorem ld_L_A : Statement .ld_L_A := fun _ => rfl
theorem ld_A_B : Statement .ld_A_B := fun _ => rfl
theorem ld_A_C : Statement .ld_A_C := fun _ => rfl
theorem ld_A_D : Statement .ld_A_D := fun _ => rfl
theorem ld_A_E : Statement .ld_A_E := fun _ => rfl
theorem ld_A_H : Statement .ld_A_H := fun _ => rfl
theorem ld_A_L : Statement .ld_A_L := fun _ => rfl
theorem ld_A_A : Statement .ld_A_A := fun _ => rfl
theorem ld_B_mHL : Statement .ld_B_mHL := fun _ => rfl
theorem ld_C_mHL : Statement .ld_C_mHL := fun _ => rfl
theorem ld_D_mHL : Statement .ld_D_mHL := fun _ => rfl
theorem ld_E_mHL : Statement .ld_E_mHL := fun _ => rfl
theorem ld_H_mHL : Statement .ld_H_mHL := fun _ => rfl
theorem ld_L_mHL : Statement .ld_L_mHL := fun _ => rfl
theorem ld_A_mHL : Statement .ld_A_mHL := fun _ => rfl
theorem ld_mHL_B : Statement .ld_mHL_B := fun _ => rfl
theorem ld_mHL_C : Statement .ld_mHL_C := fun _ => rfl
theorem ld_mHL_D : Statement .ld_mHL_D := fun _ => rfl
theorem ld_mHL_E : Statement .ld_mHL_E := fun _ => rfl
theorem ld_mHL_H : Statement .ld_mHL_H := fun _ => rfl
theorem ld_mHL_L : Statement .ld_mHL_L := fun _ => rfl
theorem ld_mHL_A : Statement .ld_mHL_A := fun _ => rfl
theorem ld_A_mBC : Statement .ld_A_mBC := fun _ => rfl
theorem ld_A_mDE : Statement .ld_A_mDE := fun _ => rfl
theorem ld_mBC_A : Statement .ld_mBC_A := fun _ => rfl
theorem ld_mDE_A : Statement .ld_mDE_A := fun _ => rfl
theorem ld_B_d8 (d8 : Byte) : Statement (.ld_B_d8 d8) := fun _ => rfl
theorem ld_C_d8 (d8 : Byte) : Statement (.ld_C_d8 d8) := fun _ => rfl
theorem ld_D_d8 (d8 : Byte) : Statement (.ld_D_d8 d8) := fun _ => rfl
theorem ld_E_d8 (d8 : Byte) : Statement (.ld_E_d8 d8) := fun _ => rfl
theorem ld_H_d8 (d8 : Byte) : Statement (.ld_H_d8 d8) := fun _ => rfl
theorem ld_L_d8 (d8 : Byte) : Statement (.ld_L_d8 d8) := fun _ => rfl
theorem ld_A_d8 (d8 : Byte) : Statement (.ld_A_d8 d8) := fun _ => rfl
theorem ld_mHL_d8 (d8 : Byte) : Statement (.ld_mHL_d8 d8) := fun _ => rfl
theorem ld_BC_d16 (d16 : Word) : Statement (.ld_BC_d16 d16) := fun _ => rfl
theorem ld_DE_d16 (d16 : Word) : Statement (.ld_DE_d16 d16) := fun _ => rfl
theorem ld_HL_d16 (d16 : Word) : Statement (.ld_HL_d16 d16) := fun _ => rfl
theorem ld_SP_d16 (d16 : Word) : Statement (.ld_SP_d16 d16) := fun _ => rfl
theorem ld_ma16_A (a16 : Word) : Statement (.ld_ma16_A a16) := fun _ => rfl
theorem ld_A_ma16 (a16 : Word) : Statement (.ld_A_ma16 a16) := fun _ => rfl
theorem ldh_ma8_A (a8 : Byte) : Statement (.ldh_ma8_A a8) := fun _ => rfl
theorem ldh_A_ma8 (a8 : Byte) : Statement (.ldh_A_ma8 a8) := fun _ => rfl
theorem ld_mC_A : Statement .ld_mC_A := fun _ => rfl
theorem ld_A_mC : Statement .ld_A_mC := fun _ => rfl
theorem ldi_mHL_A : Statement .ldi_mHL_A := fun _ => rfl
theorem ldi_A_mHL : Statement .ldi_A_mHL := fun _ => rfl
theorem ldd_mHL_A : Statement .ldd_mHL_A := fun _ => rfl
theorem ldd_A_mHL : Statement .ldd_A_mHL := fun _ => rfl
theorem ld_ma16_SP (a16 : Word) : Statement (.ld_ma16_SP a16) := fun _ => rfl
theorem add_A_B : Statement .add_A_B := fun _ => rfl
theorem add_A_C : Statement .add_A_C := fun _ => rfl
theorem add_A_D : Statement .add_A_D := fun _ => rfl
theorem add_A_E : Statement .add_A_E := fun _ => rfl
theorem add_A_H : Statement .add_A_H := fun _ => rfl
theorem add_A_L : Statement .add_A_L := fun _ => rfl
theorem add_A_A : Statement .add_A_A := fun _ => rfl
theorem add_A_mHL : Statement .add_A_mHL := fun _ => rfl
theorem add_A_d8 (d8 : Byte) : Statement (.add_A_d8 d8) := fun _ => rfl
theorem adc_A_B : Statement .adc_A_B := fun _ => rfl
theorem adc_A_C : Statement .adc_A_C := fun _ => rfl
theorem adc_A_D : Statement .adc_A_D := fun _ => rfl
theorem adc_A_E : Statement .adc_A_E := fun _ => rfl
theorem adc_A_H : Statement .adc_A_H := fun _ => rfl
theorem adc_A_L : Statement .adc_A_L := fun _ => rfl
theorem adc_A_A : Statement .adc_A_A := fun _ => rfl
theorem adc_A_mHL : Statement .adc_A_mHL := fun _ => rfl
theorem adc_A_d8 (d8 : Byte) : Statement (.adc_A_d8 d8) := fun _ => rfl
theorem sub_B : Statement .sub_B := fun _ => rfl
theorem sub_C : Statement .sub_C := fun _ => rfl
theorem sub_D : Statement .sub_D := fun _ => rfl
theorem sub_E : Statement .sub_E := fun _ => rfl
theorem sub_H : Statement .sub_H := fun _ => rfl
theorem sub_L : Statement .sub_L := fun _ => rfl
theorem sub_A : Statement .sub_A := fun _ => rfl
theorem sub_mHL : Statement .sub_mHL := fun _ => rfl
theorem sub_d8 (d8 : Byte) : Statement (.sub_d8 d8) := fun _ => rfl
theorem inc_B : Statement .inc_B := fun _ => rfl
theorem inc_C : Statement .inc_C := fun _ => rfl
theorem inc_D : Statement .inc_D := fun _ => rfl
theorem inc_E : Statement .inc_E := fun _ => rfl
theorem inc_H : Statement .inc_H := fun _ => rfl
theorem inc_L : Statement .inc_L := fun _ => rfl
theorem inc_A : Statement .inc_A := fun _ => rfl
theorem inc_mHL : Statement .inc_mHL := fun _ => rfl
theorem dec_B : Statement .dec_B := fun _ => rfl
theorem dec_C : Statement .dec_C := fun _ => rfl
theorem dec_D : Statement .dec_D := fun _ => rfl
theorem dec_E : Statement .dec_E := fun _ => rfl
theorem dec_H : Statement .dec_H := fun _ => rfl
theorem dec_L : Statement .dec_L := fun _ => rfl
theorem dec_A : Statement .dec_A := fun _ => rfl
theorem dec_mHL : Statement .dec_mHL := fun _ => rfl
theorem inc_BC : Statement .inc_BC := fun _ => rfl
theorem inc_DE : Statement .inc_DE := fun _ => rfl
theorem inc_HL : Statement .inc_HL := fun _ => rfl
theorem inc_SP : Statement .inc_SP := fun _ => rfl
theorem dec_BC : Statement .dec_BC := fun _ => rfl
theorem dec_DE : Statement .dec_DE := fun _ => rfl
theorem dec_HL : Statement .dec_HL := fun _ => rfl
theorem dec_SP : Statement .dec_SP := fun _ => rfl
theorem add_HL_BC : Statement .add_HL_BC := fun _ => rfl
theorem add_HL_DE : Statement .add_HL_DE := fun _ => rfl
theorem add_HL_HL : Statement .add_HL_HL := fun _ => rfl
theorem add_HL_SP : Statement .add_HL_SP := fun _ => rfl
theorem add_SP_e8 (e8 : Byte) : Statement (.add_SP_e8 e8) := fun _ => rfl
theorem ldhl_SP_e8 (e8 : Byte) : Statement (.ldhl_SP_e8 e8) := fun _ => rfl
theorem and_B : Statement .and_B := fun _ => rfl
theorem and_C : Statement .and_C := fun _ => rfl
theorem and_D : Statement .and_D := fun _ => rfl
theorem and_E : Statement .and_E := fun _ => rfl
theorem and_H : Statement .and_H := fun _ => rfl
theorem and_L : Statement .and_L := fun _ => rfl
theorem and_A : Statement .and_A := fun _ => rfl
theorem and_mHL : Statement .and_mHL := fun _ => rfl
theorem and_d8 (d8 : Byte) : Statement (.and_d8 d8) := fun _ => rfl
theorem xor_B : Statement .xor_B := fun _ => rfl
theorem xor_C : Statement .xor_C := fun _ => rfl
theorem xor_D : Statement .xor_D := fun _ => rfl
theorem xor_E : Statement .xor_E := fun _ => rfl
theorem xor_H : Statement .xor_H := fun _ => rfl
theorem xor_L : Statement .xor_L := fun _ => rfl
theorem xor_A : Statement .xor_A := fun _ => rfl
theorem xor_mHL : Statement .xor_mHL := fun _ => rfl
theorem xor_d8 (d8 : Byte) : Statement (.xor_d8 d8) := fun _ => rfl
theorem or_B : Statement .or_B := fun _ => rfl
theorem or_C : Statement .or_C := fun _ => rfl
theorem or_D : Statement .or_D := fun _ => rfl
theorem or_E : Statement .or_E := fun _ => rfl
theorem or_H : Statement .or_H := fun _ => rfl
theorem or_L : Statement .or_L := fun _ => rfl
theorem or_A : Statement .or_A := fun _ => rfl
theorem or_mHL : Statement .or_mHL := fun _ => rfl
theorem or_d8 (d8 : Byte) : Statement (.or_d8 d8) := fun _ => rfl
theorem cp_B : Statement .cp_B := fun _ => rfl
theorem cp_C : Statement .cp_C := fun _ => rfl
theorem cp_D : Statement .cp_D := fun _ => rfl
theorem cp_E : Statement .cp_E := fun _ => rfl
theorem cp_H : Statement .cp_H := fun _ => rfl
theorem cp_L : Statement .cp_L := fun _ => rfl
theorem cp_A : Statement .cp_A := fun _ => rfl
theorem cp_mHL : Statement .cp_mHL := fun _ => rfl
theorem cp_d8 (d8 : Byte) : Statement (.cp_d8 d8) := fun _ => rfl
theorem jp_a16 (a16 : Word) : Statement (.jp_a16 a16) := fun _ => rfl
theorem jp_NZ_a16 (a16 : Word) : Statement (.jp_NZ_a16 a16) := fun _ => rfl
theorem jp_Z_a16 (a16 : Word) : Statement (.jp_Z_a16 a16) := fun _ => rfl
theorem jp_NC_a16 (a16 : Word) : Statement (.jp_NC_a16 a16) := fun _ => rfl
theorem jp_C_a16 (a16 : Word) : Statement (.jp_C_a16 a16) := fun _ => rfl
theorem jr_e8 (e8 : Byte) : Statement (.jr_e8 e8) := fun _ => rfl
theorem jr_NZ_e8 (e8 : Byte) : Statement (.jr_NZ_e8 e8) := fun _ => rfl
theorem jr_Z_e8 (e8 : Byte) : Statement (.jr_Z_e8 e8) := fun _ => rfl
theorem jr_NC_e8 (e8 : Byte) : Statement (.jr_NC_e8 e8) := fun _ => rfl
theorem jr_C_e8 (e8 : Byte) : Statement (.jr_C_e8 e8) := fun _ => rfl
theorem call_a16 (a16 : Word) : Statement (.call_a16 a16) := fun _ => rfl
theorem call_NZ_a16 (a16 : Word) : Statement (.call_NZ_a16 a16) := fun _ => rfl
theorem call_Z_a16 (a16 : Word) : Statement (.call_Z_a16 a16) := fun _ => rfl
theorem call_NC_a16 (a16 : Word) : Statement (.call_NC_a16 a16) := fun _ => rfl
theorem call_C_a16 (a16 : Word) : Statement (.call_C_a16 a16) := fun _ => rfl
theorem ret : Statement .ret := fun _ => rfl
theorem ret_NZ : Statement .ret_NZ := fun _ => rfl
theorem ret_Z : Statement .ret_Z := fun _ => rfl
theorem ret_NC : Statement .ret_NC := fun _ => rfl
theorem ret_C : Statement .ret_C := fun _ => rfl
theorem rst_0x00 : Statement .rst_0x00 := fun _ => rfl
theorem rst_0x08 : Statement .rst_0x08 := fun _ => rfl
theorem rst_0x10 : Statement .rst_0x10 := fun _ => rfl
theorem rst_0x18 : Statement .rst_0x18 := fun _ => rfl
theorem rst_0x20 : Statement .rst_0x20 := fun _ => rfl
theorem rst_0x28 : Statement .rst_0x28 := fun _ => rfl
theorem rst_0x30 : Statement .rst_0x30 := fun _ => rfl
theorem rst_0x38 : Statement .rst_0x38 := fun _ => rfl
theorem rlca : Statement .rlca := fun _ => rfl
theorem rrca : Statement .rrca := fun _ => rfl
theorem undefined (op : Byte) : Statement (.undefined op) := fun h =>
  congrArg some (lengthOf_undefined h)
theorem unknown (op : Byte) : Statement (.unknown op) := fun h =>
  congrArg some (lengthOf_unknown h)
theorem prefixCB (b1 : Byte) : Statement (.prefixCB b1) := fun _ => rfl

end Sys2Proof.Laws.LengthByFirstByte
end

