-- ==== Sys2Proof/Tests/Slice0.lean ====
section
/-! SUPPORT. The model's own tests. The expected results are the spec's: the words come from the Encoding lines
of its families (spec/40_load_store.md to spec/45_undefined_and_prefixed.md), the one-step vectors from
spec/95_test_vectors.md, each named by its id there. At the end, for each statement of
Certificates/Slice0/Obligations.lean with hypotheses, states and operands that meet them. -/

namespace Sys2Proof.Tests

open Sys2Proof Sys2Proof.Machine Sys2Proof.Claims

set_option maxRecDepth 4000

/-! ## Well-formedness: what the check refuses (R88, R90) -/

/-- 0x41 is LD B,C, so no `unknown` term stands for it. -/
theorem test_wf_refuses_unknown_of_an_implemented_byte : (Instr.unknown 0x41).wf = false := by decide

/-- 0xDB is a candidate byte, so no `unknown` term stands for it either. -/
theorem test_wf_refuses_unknown_of_a_candidate : (Instr.unknown 0xDB).wf = false := by decide

/-- "0xD3 must not be a member" (R7). -/
theorem test_wf_refuses_undefined_0xD3 : (Instr.undefined 0xD3).wf = false := by decide

/-- R90: 31 + 1 absent bytes and 10 candidates, none of them twice or in both. -/
theorem test_wf_class_sizes : absentBytes.length = 32 ∧ Config.undefinedCandidates.length = 10
    ∧ (absentBytes ++ Config.undefinedCandidates).Nodup := by decide

/-! ## Decoding: every implemented byte, from the spec's Encoding lines -/

/-- Each byte string decodes to the instruction beside it, all of it used. -/
def reads (rows : List (List Byte × Instr)) : Bool :=
  rows.all fun row => match decode row.1 with
    | .ok (i, []) => decide (i = row.2)
    | _ => false

/-- LD B,r: `01 000 sss` (R111). -/
theorem test_decode_LD_B_r : reads [
    ([0x40], .ld_B_B), ([0x41], .ld_B_C), ([0x42], .ld_B_D), ([0x43], .ld_B_E), ([0x44], .ld_B_H),
    ([0x45], .ld_B_L), ([0x47], .ld_B_A)] = true := by decide

/-- LD C,r: `01 001 sss` (R111). -/
theorem test_decode_LD_C_r : reads [
    ([0x48], .ld_C_B), ([0x49], .ld_C_C), ([0x4A], .ld_C_D), ([0x4B], .ld_C_E), ([0x4C], .ld_C_H),
    ([0x4D], .ld_C_L), ([0x4F], .ld_C_A)] = true := by decide

/-- LD D,r: `01 010 sss` (R111). -/
theorem test_decode_LD_D_r : reads [
    ([0x50], .ld_D_B), ([0x51], .ld_D_C), ([0x52], .ld_D_D), ([0x53], .ld_D_E), ([0x54], .ld_D_H),
    ([0x55], .ld_D_L), ([0x57], .ld_D_A)] = true := by decide

/-- LD E,r: `01 011 sss` (R111). -/
theorem test_decode_LD_E_r : reads [
    ([0x58], .ld_E_B), ([0x59], .ld_E_C), ([0x5A], .ld_E_D), ([0x5B], .ld_E_E), ([0x5C], .ld_E_H),
    ([0x5D], .ld_E_L), ([0x5F], .ld_E_A)] = true := by decide

/-- LD H,r: `01 100 sss` (R111). -/
theorem test_decode_LD_H_r : reads [
    ([0x60], .ld_H_B), ([0x61], .ld_H_C), ([0x62], .ld_H_D), ([0x63], .ld_H_E), ([0x64], .ld_H_H),
    ([0x65], .ld_H_L), ([0x67], .ld_H_A)] = true := by decide

/-- LD L,r: `01 101 sss` (R111). -/
theorem test_decode_LD_L_r : reads [
    ([0x68], .ld_L_B), ([0x69], .ld_L_C), ([0x6A], .ld_L_D), ([0x6B], .ld_L_E), ([0x6C], .ld_L_H),
    ([0x6D], .ld_L_L), ([0x6F], .ld_L_A)] = true := by decide

/-- LD A,r: `01 111 sss` (R111). -/
theorem test_decode_LD_A_r : reads [
    ([0x78], .ld_A_B), ([0x79], .ld_A_C), ([0x7A], .ld_A_D), ([0x7B], .ld_A_E), ([0x7C], .ld_A_H),
    ([0x7D], .ld_A_L), ([0x7F], .ld_A_A)] = true := by decide

/-- Loads from (HL) and stores to it (R112, R113). -/
theorem test_decode_R112_R113 : reads [
    ([0x46], .ld_B_mHL), ([0x4E], .ld_C_mHL), ([0x56], .ld_D_mHL), ([0x5E], .ld_E_mHL),
    ([0x66], .ld_H_mHL), ([0x6E], .ld_L_mHL), ([0x7E], .ld_A_mHL), ([0x70], .ld_mHL_B),
    ([0x71], .ld_mHL_C), ([0x72], .ld_mHL_D), ([0x73], .ld_mHL_E), ([0x74], .ld_mHL_H),
    ([0x75], .ld_mHL_L), ([0x77], .ld_mHL_A)] = true := by decide

/-- Loads and stores through BC and DE (R114 to R117). -/
theorem test_decode_R114_R117 : reads [
    ([0x0A], .ld_A_mBC), ([0x1A], .ld_A_mDE), ([0x02], .ld_mBC_A), ([0x12], .ld_mDE_A)] = true := by decide

/-- Immediate loads (R118 to R120). -/
theorem test_decode_R118_R120 : reads [
    ([0x06, 0x9C], .ld_B_d8 0x9C), ([0x0E, 0x9C], .ld_C_d8 0x9C), ([0x16, 0x9C], .ld_D_d8 0x9C),
    ([0x1E, 0x9C], .ld_E_d8 0x9C), ([0x26, 0x9C], .ld_H_d8 0x9C), ([0x2E, 0x9C], .ld_L_d8 0x9C),
    ([0x3E, 0x9C], .ld_A_d8 0x9C), ([0x36, 0x9C], .ld_mHL_d8 0x9C),
    ([0x01, 0x34, 0x12], .ld_BC_d16 0x1234), ([0x11, 0x34, 0x12], .ld_DE_d16 0x1234),
    ([0x21, 0x34, 0x12], .ld_HL_d16 0x1234), ([0x31, 0x34, 0x12], .ld_SP_d16 0x1234)] = true := by decide

/-- Absolute and high-page loads and stores (R121 to R126). -/
theorem test_decode_R121_R126 : reads [
    ([0xEA, 0x34, 0x12], .ld_ma16_A 0x1234), ([0xFA, 0x34, 0x12], .ld_A_ma16 0x1234),
    ([0xE0, 0x9C], .ldh_ma8_A 0x9C), ([0xF0, 0x9C], .ldh_A_ma8 0x9C), ([0xE2], .ld_mC_A),
    ([0xF2], .ld_A_mC)] = true := by decide

/-- LDI, LDD and LD (a16),SP (R127 to R131). -/
theorem test_decode_R127_R131 : reads [
    ([0x22], .ldi_mHL_A), ([0x2A], .ldi_A_mHL), ([0x32], .ldd_mHL_A), ([0x3A], .ldd_A_mHL),
    ([0x08, 0x34, 0x12], .ld_ma16_SP 0x1234)] = true := by decide

/-- ADD and ADC (R153 to R158). -/
theorem test_decode_R153_R158 : reads [
    ([0x80], .add_A_B), ([0x81], .add_A_C), ([0x82], .add_A_D), ([0x83], .add_A_E),
    ([0x84], .add_A_H), ([0x85], .add_A_L), ([0x87], .add_A_A), ([0x86], .add_A_mHL),
    ([0xC6, 0x9C], .add_A_d8 0x9C), ([0x88], .adc_A_B), ([0x89], .adc_A_C), ([0x8A], .adc_A_D),
    ([0x8B], .adc_A_E), ([0x8C], .adc_A_H), ([0x8D], .adc_A_L), ([0x8F], .adc_A_A),
    ([0x8E], .adc_A_mHL), ([0xCE, 0x9C], .adc_A_d8 0x9C)] = true := by decide

/-- SUB (R159 to R161). -/
theorem test_decode_R159_R161 : reads [
    ([0x90], .sub_B), ([0x91], .sub_C), ([0x92], .sub_D), ([0x93], .sub_E), ([0x94], .sub_H),
    ([0x95], .sub_L), ([0x97], .sub_A), ([0x96], .sub_mHL), ([0xD6, 0x9C], .sub_d8 0x9C)] = true := by decide

/-- 8-bit INC and DEC (R162 to R165). -/
theorem test_decode_R162_R165 : reads [
    ([0x04], .inc_B), ([0x0C], .inc_C), ([0x14], .inc_D), ([0x1C], .inc_E), ([0x24], .inc_H),
    ([0x2C], .inc_L), ([0x3C], .inc_A), ([0x34], .inc_mHL), ([0x05], .dec_B), ([0x0D], .dec_C),
    ([0x15], .dec_D), ([0x1D], .dec_E), ([0x25], .dec_H), ([0x2D], .dec_L), ([0x3D], .dec_A),
    ([0x35], .dec_mHL)] = true := by decide

/-- 16-bit INC, DEC and ADD (R166 to R171). -/
theorem test_decode_R166_R171 : reads [
    ([0x03], .inc_BC), ([0x13], .inc_DE), ([0x23], .inc_HL), ([0x33], .inc_SP), ([0x0B], .dec_BC),
    ([0x1B], .dec_DE), ([0x2B], .dec_HL), ([0x3B], .dec_SP), ([0x09], .add_HL_BC),
    ([0x19], .add_HL_DE), ([0x29], .add_HL_HL), ([0x39], .add_HL_SP),
    ([0xE8, 0x9C], .add_SP_e8 0x9C), ([0xF8, 0x9C], .ldhl_SP_e8 0x9C)] = true := by decide

/-- AND and XOR (R180 to R185). -/
theorem test_decode_R180_R185 : reads [
    ([0xA0], .and_B), ([0xA1], .and_C), ([0xA2], .and_D), ([0xA3], .and_E), ([0xA4], .and_H),
    ([0xA5], .and_L), ([0xA7], .and_A), ([0xA6], .and_mHL), ([0xE6, 0x9C], .and_d8 0x9C),
    ([0xA8], .xor_B), ([0xA9], .xor_C), ([0xAA], .xor_D), ([0xAB], .xor_E), ([0xAC], .xor_H),
    ([0xAD], .xor_L), ([0xAF], .xor_A), ([0xAE], .xor_mHL), ([0xEE, 0x9C], .xor_d8 0x9C)] = true := by decide

/-- OR and CP (R186 to R191). -/
theorem test_decode_R186_R191 : reads [
    ([0xB0], .or_B), ([0xB1], .or_C), ([0xB2], .or_D), ([0xB3], .or_E), ([0xB4], .or_H),
    ([0xB5], .or_L), ([0xB7], .or_A), ([0xB6], .or_mHL), ([0xF6, 0x9C], .or_d8 0x9C),
    ([0xB8], .cp_B), ([0xB9], .cp_C), ([0xBA], .cp_D), ([0xBB], .cp_E), ([0xBC], .cp_H),
    ([0xBD], .cp_L), ([0xBF], .cp_A), ([0xBE], .cp_mHL), ([0xFE, 0x9C], .cp_d8 0x9C)] = true := by decide

/-- Jumps (R196 to R199). -/
theorem test_decode_R196_R199 : reads [
    ([0xC3, 0x34, 0x12], .jp_a16 0x1234), ([0xC2, 0x34, 0x12], .jp_NZ_a16 0x1234),
    ([0xCA, 0x34, 0x12], .jp_Z_a16 0x1234), ([0xD2, 0x34, 0x12], .jp_NC_a16 0x1234),
    ([0xDA, 0x34, 0x12], .jp_C_a16 0x1234), ([0x18, 0x9C], .jr_e8 0x9C),
    ([0x20, 0x9C], .jr_NZ_e8 0x9C), ([0x28, 0x9C], .jr_Z_e8 0x9C), ([0x30, 0x9C], .jr_NC_e8 0x9C),
    ([0x38, 0x9C], .jr_C_e8 0x9C)] = true := by decide

/-- Calls, returns, RST (R200 to R204). -/
theorem test_decode_R200_R204 : reads [
    ([0xCD, 0x34, 0x12], .call_a16 0x1234), ([0xC4, 0x34, 0x12], .call_NZ_a16 0x1234),
    ([0xCC, 0x34, 0x12], .call_Z_a16 0x1234), ([0xD4, 0x34, 0x12], .call_NC_a16 0x1234),
    ([0xDC, 0x34, 0x12], .call_C_a16 0x1234), ([0xC9], .ret), ([0xC0], .ret_NZ), ([0xC8], .ret_Z),
    ([0xD0], .ret_NC), ([0xD8], .ret_C), ([0xC7], .rst_0x00), ([0xCF], .rst_0x08),
    ([0xD7], .rst_0x10), ([0xDF], .rst_0x18), ([0xE7], .rst_0x20), ([0xEF], .rst_0x28),
    ([0xF7], .rst_0x30), ([0xFF], .rst_0x38)] = true := by decide

/-- Rotates (R210, R211). -/
theorem test_decode_R210_R211 : reads [
    ([0x07], .rlca), ([0x0F], .rrca)] = true := by decide

/-- The prefix with its second byte (R91), a candidate (R215), 0xD3 and 0x00 (R216). -/
theorem test_decode_unimplemented : reads [
    ([0xCB, 0x37], .prefixCB 0x37), ([0xFC], .undefined 0xFC), ([0xD3], .unknown 0xD3),
    ([0x00], .unknown 0x00)] = true := by decide

/-- R92: a byte string cut short is no instruction. -/
theorem test_decode_truncated : (decode [0xC3, 0x24]).toOption = none ∧ (decode []).toOption = none := by
  decide

/-- The host's numbering: bits 7:0 are the first byte (a word of JP 0x3524). -/
theorem test_decodeTableWord : decodeTableWord 24 0x3524C3 = some (.jp_a16 0x3524)
    ∧ decodeTableWord 8 0x41 = some .ld_B_C ∧ decodeTableWord 16 0x37CB = some (.prefixCB 0x37) := by
  decide

/-! ## One step (spec/95_test_vectors.md, part 2) -/

/-- The base state of the vectors: after `new` and `init`, nothing loaded. -/
def base : State := State.reset

/-- With the bytes at PC, one `tick` from `s` makes the given changes and no other. -/
def ticksTo (bytes : List Byte) (s : State) (changes : State → State) : Prop :=
  step (s.storeBytesFrom s.pc bytes) = .next (changes (s.storeBytesFrom s.pc bytes))

/-! ### Load and store -/

/-- V-LD04 (R111): LD A,E, F = 0x5F kept. -/
theorem test_V_LD04 : ticksTo [0x7B] { base with f := 0x5F }
    fun t => { t with a := 0xD8, pc := 0x0101 } := by rfl

/-- V-LD06 (R112): LD H,(HL). -/
theorem test_V_LD06 : ticksTo [0x66] { (base.write8 0xC000 0x5A) with h := 0xC0, l := 0x00 }
    fun t => { t with h := 0x5A, pc := 0x0101 } := by rfl

/-- V-LD08 (R113): LD (HL),L. -/
theorem test_V_LD08 : ticksTo [0x75] { base with h := 0xC1, l := 0x23 }
    fun t => { (t.write8 0xC123 0x23) with pc := 0x0101 } := by rfl

/-- V-LD10 (R113): LD (HL),A. -/
theorem test_V_LD10 : ticksTo [0x77] { base with h := 0xFF, l := 0xFF, a := 0x80 }
    fun t => { (t.write8 0xFFFF 0x80) with pc := 0x0101 } := by rfl

/-- V-LD11 (R114): LD A,(BC). -/
theorem test_V_LD11 : ticksTo [0x0A] (base.write8 0x0013 0x77)
    fun t => { t with a := 0x77, pc := 0x0101 } := by rfl

/-- V-LD12 (R115): LD A,(DE). -/
theorem test_V_LD12 : ticksTo [0x1A] (base.write8 0x00D8 0x33)
    fun t => { t with a := 0x33, pc := 0x0101 } := by rfl

/-- V-LD13 (R116): LD (BC),A. -/
theorem test_V_LD13 : ticksTo [0x02] { base with b := 0xC0, c := 0x10, a := 0xAB }
    fun t => { (t.write8 0xC010 0xAB) with pc := 0x0101 } := by rfl

/-- V-LD14 (R117): LD (DE),A. -/
theorem test_V_LD14 : ticksTo [0x12] { base with d := 0xC0, e := 0x20, a := 0xCD }
    fun t => { (t.write8 0xC020 0xCD) with pc := 0x0101 } := by rfl

/-- V-LD16 (R118): LD L,d8 at PC = 0xFFFF. -/
theorem test_V_LD16 : ticksTo [0x2E] { (base.write8 0x0000 0x99) with pc := 0xFFFF }
    fun t => { t with l := 0x99, pc := 0x0001 } := by rfl

/-- V-LD18 (R119): LD (HL),d8, HL = pc0. -/
theorem test_V_LD18 : ticksTo [0x36, 0x77] { base with h := 0x01, l := 0x00 }
    fun t => { (t.write8 0x0100 0x77) with pc := 0x0102 } := by rfl

/-- V-LD21 (R120): LD HL,d16 across 0xFFFF. -/
theorem test_V_LD21 : ticksTo [0x21, 0xCD] { (base.write8 0x0000 0xAB) with pc := 0xFFFE }
    fun t => { t with h := 0xAB, l := 0xCD, pc := 0x0001 } := by rfl

/-- V-LD22 (R120): LD SP,d16. -/
theorem test_V_LD22 : ticksTo [0x31, 0x00, 0xD0] base
    fun t => { t with sp := 0xD000, pc := 0x0103 } := by rfl

/-- V-LD24 (R121): LD (a16),A onto own operand. -/
theorem test_V_LD24 : ticksTo [0xEA, 0x01, 0x01] { base with a := 0x99 }
    fun t => { (t.write8 0x0101 0x99) with pc := 0x0103 } := by rfl

/-- V-LD26 (R122): LD A,(a16) reads own opcode. -/
theorem test_V_LD26 : ticksTo [0xFA, 0x00, 0x01] base
    fun t => { t with a := 0xFA, pc := 0x0103 } := by rfl

/-- V-LD28 (R123): LDH (a8),A, a8 = 0xFF. -/
theorem test_V_LD28 : ticksTo [0xE0, 0xFF] { base with a := 0x1F }
    fun t => { (t.write8 0xFFFF 0x1F) with pc := 0x0102 } := by rfl

/-- V-LD29 (R124): LDH A,(a8). -/
theorem test_V_LD29 : ticksTo [0xF0, 0x44] (base.write8 0xFF44 0x90)
    fun t => { t with a := 0x90, pc := 0x0102 } := by rfl

/-- V-LD30 (R125): LD (C),A. -/
theorem test_V_LD30 : ticksTo [0xE2] base
    fun t => { (t.write8 0xFF13 0x01) with pc := 0x0101 } := by rfl

/-- V-LD31 (R126): LD A,(C). -/
theorem test_V_LD31 : ticksTo [0xF2] { (base.write8 0xFF00 0xCF) with c := 0x00 }
    fun t => { t with a := 0xCF, pc := 0x0101 } := by rfl

/-- V-LD33 (R127): LDI (HL),A, HL = 0xFFFF. -/
theorem test_V_LD33 : ticksTo [0x22] { base with h := 0xFF, l := 0xFF, a := 0x11 }
    fun t => { (t.write8 0xFFFF 0x11) with h := 0x00, l := 0x00, pc := 0x0101 } := by rfl

/-- V-LD34 (R128): LDI A,(HL). -/
theorem test_V_LD34 : ticksTo [0x2A] (base.write8 0x014D 0xE7)
    fun t => { t with a := 0xE7, l := 0x4E, pc := 0x0101 } := by rfl

/-- V-LD36 (R129): LDD (HL),A, HL = 0x0000. -/
theorem test_V_LD36 : ticksTo [0x32] { base with h := 0x00, l := 0x00, a := 0x55 }
    fun t => { (t.write8 0x0000 0x55) with h := 0xFF, l := 0xFF, pc := 0x0101 } := by rfl

/-- V-LD38 (R130): LDD A,(HL), HL = 0x0000. -/
theorem test_V_LD38 : ticksTo [0x3A] { (base.write8 0x0000 0x3C) with h := 0x00, l := 0x00 }
    fun t => { t with a := 0x3C, h := 0xFF, l := 0xFF, pc := 0x0101 } := by rfl

/-- V-LD40 (R131): LD (a16),SP, a16 = 0xFFFF. -/
theorem test_V_LD40 : ticksTo [0x08, 0xFF, 0xFF] { base with sp := 0x1234 }
    fun t => { ((t.write8 0x0000 0x12).write8 0xFFFF 0x34) with pc := 0x0103 } := by rfl

/-! ### Arithmetic -/

/-- V-AR02 (R153): ADD A,C (source example). -/
theorem test_V_AR02 : ticksTo [0x81] { base with a := 0xFF, c := 0xFF }
    fun t => { t with a := 0xFE, f := 0x30, pc := 0x0101 } := by rfl

/-- V-AR05 (R153): ADD A,E low nibble of F kept. -/
theorem test_V_AR05 : ticksTo [0x83] { base with a := 0x01, e := 0x01, f := 0xFF }
    fun t => { t with a := 0x02, f := 0x0F, pc := 0x0101 } := by rfl

/-- V-AR06 (R154): ADD A,(HL). -/
theorem test_V_AR06 : ticksTo [0x86] { (base.write8 0xC000 0xFF) with a := 0xFF, h := 0xC0, l := 0x00 }
    fun t => { t with a := 0xFE, f := 0x30, pc := 0x0101 } := by rfl

/-- V-AR07 (R155): ADD A,d8. -/
theorem test_V_AR07 : ticksTo [0xC6, 0xC6] { base with a := 0x3A }
    fun t => { t with a := 0x00, pc := 0x0102 } := by rfl

/-- V-AR08 (R156): ADC A,E carry in 1. -/
theorem test_V_AR08 : ticksTo [0x8B] { base with a := 0xE1, e := 0x0F, f := 0x10 }
    fun t => { t with a := 0xF1, f := 0x20, pc := 0x0101 } := by rfl

/-- V-AR11 (R156): ADC A,B 0x00+0xFF+1. -/
theorem test_V_AR11 : ticksTo [0x88] { base with a := 0x00, b := 0xFF, f := 0x10 }
    fun t => { t with f := 0xB0, pc := 0x0101 } := by rfl

/-- V-AR14 (R157): ADC A,(HL). -/
theorem test_V_AR14 : ticksTo [0x8E] { (base.write8 0xC000 0x1E) with a := 0xE1, h := 0xC0, l := 0x00, f := 0x10 }
    fun t => { t with a := 0x00, f := 0xB0, pc := 0x0101 } := by rfl

/-- V-AR15 (R158): ADC A,d8. -/
theorem test_V_AR15 : ticksTo [0xCE, 0x3B] { base with a := 0xE1, f := 0x10 }
    fun t => { t with a := 0x1D, pc := 0x0102 } := by rfl

/-- V-AR17 (R159): SUB B borrow. -/
theorem test_V_AR17 : ticksTo [0x90] { base with a := 0x00, b := 0x01 }
    fun t => { t with a := 0xFF, f := 0x70, pc := 0x0101 } := by rfl

/-- V-AR20 (R160): SUB (HL). -/
theorem test_V_AR20 : ticksTo [0x96] { (base.write8 0xC000 0x40) with a := 0x3E, h := 0xC0, l := 0x00 }
    fun t => { t with a := 0xFE, f := 0x50, pc := 0x0101 } := by rfl

/-- V-AR21 (R161): SUB d8. -/
theorem test_V_AR21 : ticksTo [0xD6, 0x0F] { base with a := 0x3E }
    fun t => { t with a := 0x2F, f := 0x60, pc := 0x0102 } := by rfl

/-- V-AR22 (R162): INC B 0xFF (source example), C kept 1. -/
theorem test_V_AR22 : ticksTo [0x04] { base with b := 0xFF, f := 0x10 }
    fun t => { t with b := 0x00, f := 0xB0, pc := 0x0101 } := by rfl

/-- V-AR26 (R162): INC L carries nowhere. -/
theorem test_V_AR26 : ticksTo [0x2C] { base with h := 0x01, l := 0xFF, f := 0x00 }
    fun t => { t with l := 0x00, f := 0xA0, pc := 0x0101 } := by rfl

/-- V-AR29 (R163): INC (HL) 0xFF. -/
theorem test_V_AR29 : ticksTo [0x34] { (base.write8 0xC000 0xFF) with h := 0xC0, l := 0x00, f := 0x10 }
    fun t => { (t.write8 0xC000 0x00) with f := 0xB0, pc := 0x0101 } := by rfl

/-- V-AR32 (R164): DEC D 0x10, C kept 1. -/
theorem test_V_AR32 : ticksTo [0x15] { base with d := 0x10, f := 0x10 }
    fun t => { t with d := 0x0F, f := 0x70, pc := 0x0101 } := by rfl

/-- V-AR35 (R165): DEC (HL) 0x00. -/
theorem test_V_AR35 : ticksTo [0x35] { (base.write8 0xC000 0x00) with h := 0xC0, l := 0x00, f := 0x00 }
    fun t => { (t.write8 0xC000 0xFF) with f := 0x60, pc := 0x0101 } := by rfl

/-- V-AR37 (R166): INC BC 0xFFFF. -/
theorem test_V_AR37 : ticksTo [0x03] { base with b := 0xFF, c := 0xFF }
    fun t => { t with b := 0x00, c := 0x00, pc := 0x0101 } := by rfl

/-- V-AR42 (R167): DEC BC 0x0100. -/
theorem test_V_AR42 : ticksTo [0x0B] { base with b := 0x01, c := 0x00 }
    fun t => { t with b := 0x00, c := 0xFF, pc := 0x0101 } := by rfl

/-- V-AR43 (R167): DEC DE 0x0001 (Z not written). -/
theorem test_V_AR43 : ticksTo [0x1B] { base with d := 0x00, e := 0x01, f := 0x00 }
    fun t => { t with e := 0x00, pc := 0x0101 } := by rfl

/-- V-AR45 (R167): DEC SP 0x0000. -/
theorem test_V_AR45 : ticksTo [0x3B] { base with sp := 0x0000 }
    fun t => { t with sp := 0xFFFF, pc := 0x0101 } := by rfl

/-- V-AR46 (R168): ADD HL,BC. -/
theorem test_V_AR46 : ticksTo [0x09] { base with h := 0x8A, l := 0x23, b := 0x06, c := 0x05, f := 0x00 }
    fun t => { t with h := 0x90, l := 0x28, f := 0x20, pc := 0x0101 } := by rfl

/-- V-AR47 (R168): ADD HL,HL 0x8000, Z kept 0. -/
theorem test_V_AR47 : ticksTo [0x29] { base with h := 0x80, l := 0x00, f := 0x00 }
    fun t => { t with h := 0x00, f := 0x10, pc := 0x0101 } := by rfl

/-- V-AR51 (R168): ADD HL,BC 0xFFFF+0xFFFF. -/
theorem test_V_AR51 : ticksTo [0x09] { base with h := 0xFF, l := 0xFF, b := 0xFF, c := 0xFF, f := 0x00 }
    fun t => { t with l := 0xFE, f := 0x30, pc := 0x0101 } := by rfl

/-- V-AR53 (R170): ADD SP,e8 -8. -/
theorem test_V_AR53 : ticksTo [0xE8, 0xF8] { base with sp := 0xFFF8 }
    fun t => { t with f := 0x30, sp := 0xFFF0, pc := 0x0102 } := by rfl

/-- V-AR60 (R170): ADD SP,e8 +127 bit 11. -/
theorem test_V_AR60 : ticksTo [0xE8, 0x7F] { base with sp := 0x0F81, f := 0x00 }
    fun t => { t with f := 0x20, sp := 0x1000, pc := 0x0102 } := by rfl

/-- V-AR63 (R171): LDHL SP,e8 -2. -/
theorem test_V_AR63 : ticksTo [0xF8, 0xFE] { base with sp := 0xD000 }
    fun t => { t with h := 0xCF, l := 0xFE, f := 0x10, pc := 0x0102 } := by rfl

/-- V-AR64 (R171): LDHL SP,e8 0. -/
theorem test_V_AR64 : ticksTo [0xF8, 0x00] { base with sp := 0xD000, f := 0xFF }
    fun t => { t with h := 0xD0, l := 0x00, f := 0x0F, pc := 0x0102 } := by rfl

/-! ### Logic and compare -/

/-- V-LG01 (R180): AND L. -/
theorem test_V_LG01 : ticksTo [0xA5] { base with a := 0x5A, l := 0x3F, f := 0xF0 }
    fun t => { t with a := 0x1A, f := 0x20, pc := 0x0101 } := by rfl

/-- V-LG03 (R180): AND B to zero. -/
theorem test_V_LG03 : ticksTo [0xA0] { base with a := 0xF0, b := 0x0F, f := 0x5F }
    fun t => { t with a := 0x00, f := 0xAF, pc := 0x0101 } := by rfl

/-- V-LG04 (R181): AND (HL). -/
theorem test_V_LG04 : ticksTo [0xA6] { (base.write8 0xC000 0x00) with a := 0x5A, h := 0xC0, l := 0x00 }
    fun t => { t with a := 0x00, f := 0xA0, pc := 0x0101 } := by rfl

/-- V-LG05 (R182): AND d8. -/
theorem test_V_LG05 : ticksTo [0xE6, 0x38] { base with a := 0x5A }
    fun t => { t with a := 0x18, f := 0x20, pc := 0x0102 } := by rfl

/-- V-LG06 (R183): XOR A. -/
theorem test_V_LG06 : ticksTo [0xAF] { base with a := 0x5A, f := 0xFF }
    fun t => { t with a := 0x00, f := 0x8F, pc := 0x0101 } := by rfl

/-- V-LG08 (R184): XOR (HL). -/
theorem test_V_LG08 : ticksTo [0xAE] { (base.write8 0xC000 0x8A) with a := 0xFF, h := 0xC0, l := 0x00 }
    fun t => { t with a := 0x75, f := 0x00, pc := 0x0101 } := by rfl

/-- V-LG09 (R185): XOR d8 complement. -/
theorem test_V_LG09 : ticksTo [0xEE, 0xFF] { base with a := 0x3C }
    fun t => { t with a := 0xC3, f := 0x00, pc := 0x0102 } := by rfl

/-- V-LG11 (R186): OR A, A = 0. -/
theorem test_V_LG11 : ticksTo [0xB7] { base with a := 0x00, f := 0x70 }
    fun t => { t with f := 0x80, pc := 0x0101 } := by rfl

/-- V-LG13 (R187): OR (HL). -/
theorem test_V_LG13 : ticksTo [0xB6] { (base.write8 0xC000 0x00) with a := 0x00, h := 0xC0, l := 0x00 }
    fun t => { t with f := 0x80, pc := 0x0101 } := by rfl

/-- V-LG14 (R188): OR d8. -/
theorem test_V_LG14 : ticksTo [0xF6, 0x03] { base with a := 0x5A }
    fun t => { t with a := 0x5B, f := 0x00, pc := 0x0102 } := by rfl

/-- V-LG15 (R189): CP B half borrow. -/
theorem test_V_LG15 : ticksTo [0xB8] { base with a := 0x3C, b := 0x2F }
    fun t => { t with f := 0x60, pc := 0x0101 } := by rfl

/-- V-LG18 (R189): CP D greater, no borrow. -/
theorem test_V_LG18 : ticksTo [0xBA] { base with a := 0x80, d := 0x10, f := 0x0F }
    fun t => { t with f := 0x4F, pc := 0x0101 } := by rfl

/-- V-LG19 (R190): CP (HL). -/
theorem test_V_LG19 : ticksTo [0xBE] { (base.write8 0xC000 0x40) with a := 0x3C, h := 0xC0, l := 0x00 }
    fun t => { t with f := 0x50, pc := 0x0101 } := by rfl

/-- V-LG21 (R191): CP d8 0xFF. -/
theorem test_V_LG21 : ticksTo [0xFE, 0xFF] { base with a := 0x00 }
    fun t => { t with f := 0x70, pc := 0x0102 } := by rfl

/-! ### Control flow -/

/-- V-CF03 (R196): JP a16 across 0xFFFF. -/
theorem test_V_CF03 : ticksTo [0xC3] { ((base.write8 0x0000 0x34).write8 0x0001 0x12) with pc := 0xFFFF }
    fun t => { t with pc := 0x1234 } := by rfl

/-- V-CF04 (R197): JP NZ taken. -/
theorem test_V_CF04 : ticksTo [0xC2, 0x00, 0x02] { base with f := 0x00, pc := 0x0150 }
    fun t => { t with pc := 0x0200 } := by rfl

/-- V-CF07 (R197): JP Z not taken. -/
theorem test_V_CF07 : ticksTo [0xCA, 0x00, 0x02] { base with f := 0x70 }
    fun t => { t with pc := 0x0103 } := by rfl

/-- V-CF08 (R197): JP NC taken. -/
theorem test_V_CF08 : ticksTo [0xD2, 0x00, 0x02] { base with f := 0xE0 }
    fun t => { t with pc := 0x0200 } := by rfl

/-- V-CF11 (R197): JP C not taken. -/
theorem test_V_CF11 : ticksTo [0xDA, 0x00, 0x02] { base with f := 0xE0 }
    fun t => { t with pc := 0x0103 } := by rfl

/-- V-CF12 (R198): JR 0xF1 (source example). -/
theorem test_V_CF12 : ticksTo [0x18, 0xF1] { base with pc := 0xFFEE }
    fun t => { t with pc := 0xFFE1 } := by rfl

/-- V-CF16 (R198): JR 0xFD from 0x0000. -/
theorem test_V_CF16 : ticksTo [0x18, 0xFD] { base with pc := 0x0000 }
    fun t => { t with pc := 0xFFFF } := by rfl

/-- V-CF21 (R199): JR NZ not taken. -/
theorem test_V_CF21 : ticksTo [0x20, 0xFC] { base with f := 0x80, pc := 0x0105 }
    fun t => { t with pc := 0x0107 } := by rfl

/-- V-CF22 (R199): JR Z taken. -/
theorem test_V_CF22 : ticksTo [0x28, 0x10] { base with f := 0x80 }
    fun t => { t with pc := 0x0112 } := by rfl

/-- V-CF25 (R199): JR NC not taken. -/
theorem test_V_CF25 : ticksTo [0x30, 0x10] { base with f := 0x10 }
    fun t => { t with pc := 0x0102 } := by rfl

/-- V-CF26 (R199): JR C taken. -/
theorem test_V_CF26 : ticksTo [0x38, 0x10] { base with f := 0x10 }
    fun t => { t with pc := 0x0112 } := by rfl

/-- V-CF28 (R200): CALL a16 (source example). -/
theorem test_V_CF28 : ticksTo [0xCD, 0x24, 0x35] { base with pc := 0xFF13, sp := 0xFFFE }
    fun t => { ((t.write8 0xFFFD 0x16).write8 0xFFFE 0xFF) with sp := 0xFFFC, pc := 0x3524 } := by rfl

/-- V-CF30 (R200): CALL a16, SP = 0x0001. -/
theorem test_V_CF30 : ticksTo [0xCD, 0x00, 0x20] { base with sp := 0x0001 }
    fun t => { ((t.write8 0x0000 0x03).write8 0x0001 0x01) with sp := 0xFFFF, pc := 0x2000 } := by rfl

/-- V-CF32 (R201): CALL NZ taken. -/
theorem test_V_CF32 : ticksTo [0xC4, 0x00, 0x20] { base with f := 0x00 }
    fun t => { ((t.write8 0xFFFD 0x03).write8 0xFFFE 0x01) with sp := 0xFFFC, pc := 0x2000 } := by rfl

/-- V-CF35 (R201): CALL Z not taken. -/
theorem test_V_CF35 : ticksTo [0xCC, 0x00, 0x20] { base with f := 0x00 }
    fun t => { t with pc := 0x0103 } := by rfl

/-- V-CF37 (R201): CALL NC not taken. -/
theorem test_V_CF37 : ticksTo [0xD4, 0x00, 0x20] { base with f := 0x10 }
    fun t => { t with pc := 0x0103 } := by rfl

/-- V-CF38 (R201): CALL C taken. -/
theorem test_V_CF38 : ticksTo [0xDC, 0x00, 0x20] { base with f := 0x10, pc := 0x0150 }
    fun t => { ((t.write8 0xFFFD 0x53).write8 0xFFFE 0x01) with sp := 0xFFFC, pc := 0x2000 } := by rfl

/-- V-CF41 (R202): RET, SP = 0xFFFE. -/
theorem test_V_CF41 : ticksTo [0xC9] { ((base.write8 0xFFFF 0x34).write8 0x0000 0x12) with sp := 0xFFFE }
    fun t => { t with sp := 0x0000, pc := 0x1234 } := by rfl

/-- V-CF44 (R203): RET NZ not taken. -/
theorem test_V_CF44 : ticksTo [0xC0] { ((base.write8 0xFFFD 0x16).write8 0xFFFE 0xFF) with f := 0x80, sp := 0xFFFC }
    fun t => { t with pc := 0x0101 } := by rfl

/-- V-CF45 (R203): RET Z taken. -/
theorem test_V_CF45 : ticksTo [0xC8] { ((base.write8 0xFFFD 0x16).write8 0xFFFE 0xFF) with f := 0x80, sp := 0xFFFC }
    fun t => { t with sp := 0xFFFE, pc := 0xFF16 } := by rfl

/-- V-CF47 (R203): RET NC taken. -/
theorem test_V_CF47 : ticksTo [0xD0] { ((base.write8 0xFFFD 0x16).write8 0xFFFE 0xFF) with f := 0x00, sp := 0xFFFC }
    fun t => { t with sp := 0xFFFE, pc := 0xFF16 } := by rfl

/-- V-CF50 (R203): RET C not taken. -/
theorem test_V_CF50 : ticksTo [0xD8] { ((base.write8 0xFFFD 0x16).write8 0xFFFE 0xFF) with f := 0x00, sp := 0xFFFC }
    fun t => { t with pc := 0x0101 } := by rfl

/-- V-CF52 (R204): RST 0x08. -/
theorem test_V_CF52 : ticksTo [0xCF] { base with pc := 0x0150 }
    fun t => { ((t.write8 0xFFFD 0x51).write8 0xFFFE 0x01) with sp := 0xFFFC, pc := 0x0008 } := by rfl

/-- V-CF58 (R204): RST 0x38. -/
theorem test_V_CF58 : ticksTo [0xFF] { base with pc := 0x0150 }
    fun t => { ((t.write8 0xFFFD 0x51).write8 0xFFFE 0x01) with sp := 0xFFFC, pc := 0x0038 } := by rfl

/-- V-CF59 (R204): RST 0x38 at PC = 0xFFFF. -/
theorem test_V_CF59 : ticksTo [0xFF] { ((base.write8 0xD000 0xAA).write8 0xCFFF 0xAA) with pc := 0xFFFF, sp := 0xD000 }
    fun t => { ((t.write8 0xCFFF 0x00).write8 0xD000 0x00) with sp := 0xCFFE, pc := 0x0038 } := by rfl

/-! ### Rotate -/

/-- V-RO01 (R210): RLCA. -/
theorem test_V_RO01 : ticksTo [0x07] { base with a := 0x85, f := 0xF0 }
    fun t => { t with a := 0x0B, f := 0x10, pc := 0x0101 } := by rfl

/-- V-RO05 (R210): RLCA 0x01, low nibble of F kept. -/
theorem test_V_RO05 : ticksTo [0x07] { base with a := 0x01, f := 0xFF }
    fun t => { t with a := 0x02, f := 0x0F, pc := 0x0101 } := by rfl

/-- V-RO07 (R211): RRCA. -/
theorem test_V_RO07 : ticksTo [0x0F] { base with a := 0x3B }
    fun t => { t with a := 0x9D, f := 0x10, pc := 0x0101 } := by rfl

/-- V-RO10 (R211): RRCA 0x80. -/
theorem test_V_RO10 : ticksTo [0x0F] { base with a := 0x80, f := 0x10 }
    fun t => { t with a := 0x40, f := 0x00, pc := 0x0101 } := by rfl

/-! ### Bytes without an implemented instruction -/

/-- V-UN01 (R216): 0xD3 (source example). -/
theorem test_V_UN01 : ticksTo [0xD3] base
    fun t => { t with pc := 0x0100, fault := some { opcode := 0xD3, addr := 0x0100 } } := by rfl

/-- V-UN02 (R216): 0x00 in zero-filled memory. -/
theorem test_V_UN02 : ticksTo [0x00] base
    fun t => { t with pc := 0x0100, fault := some { opcode := 0x00, addr := 0x0100 } } := by rfl

/-- V-UN05 (R216): 0xDE does not read its operand. -/
theorem test_V_UN05 : ticksTo [0xDE, 0x01] base
    fun t => { t with pc := 0x0100, fault := some { opcode := 0xDE, addr := 0x0100 } } := by rfl

/-- V-UN11 (R217): CB 00. -/
theorem test_V_UN11 : ticksTo [0xCB, 0x00] base
    fun t => { t with pc := 0x0100, fault := some { opcode := 0x00, addr := 0x0101 } } := by rfl

/-- V-UN13 (R217): CB at 0xFFFF. -/
theorem test_V_UN13 : ticksTo [0xCB] { (base.write8 0x0000 0x7C) with pc := 0xFFFF }
    fun t => { t with pc := 0xFFFF, fault := some { opcode := 0x7C, addr := 0x0000 } } := by rfl

/-! ### The open parameters (R7) with the values the spec did not choose -/

/-- V-AR27: INC B with `INC8_DEC8_WRITE_CARRY` true. -/
theorem test_V_AR27 : incReg8 true .B { base with b := 0xFF, f := 0x00 }
    = .next { base with b := 0x00, f := 0xB0, pc := 0x0101 } := by rfl

/-- V-AR34: DEC B with `INC8_DEC8_WRITE_CARRY` true. -/
theorem test_V_AR34 : decReg8 true .B { base with b := 0x00, f := 0x00 }
    = .next { base with b := 0xFF, f := 0x70, pc := 0x0101 } := by rfl

/-- V-AR52: ADD HL,HL with `ADDHL_WRITES_ZERO` true. -/
theorem test_V_AR52 : addToHl true .HL { base with h := 0x80, l := 0x00, f := 0x00 }
    = .next { base with h := 0x00, l := 0x00, f := 0x90, pc := 0x0101 } := by rfl

/-- V-UN06: 0xFC with `TOLERATED_UNDEFINED` empty. -/
theorem test_V_UN06 : candidateOpcode (fun _ => false) 0xFC base
    = .next { base with fault := some { opcode := 0xFC, addr := 0x0100 } } := by rfl

/-- V-UN07: 0xFC tolerated. -/
theorem test_V_UN07 : candidateOpcode (fun b => b = 0xFC) 0xFC base
    = .next { base with pc := 0x0101 } := by rfl

/-- V-UN08: 0xDB tolerated at 0xFFFF. -/
theorem test_V_UN08 : candidateOpcode (fun b => b = 0xDB) 0xDB { base with pc := 0xFFFF }
    = .next { base with pc := 0x0000 } := by rfl

/-! ## Reset, host operations, stack (spec/95_test_vectors.md, part 3) -/

/-- V-RS03: `init` loads the low nibble of F as 0 and leaves memory and the latch. -/
theorem test_V_RS03 : hostInit { base with f := 0xFF, sp := 0x1234, mem := [(0xC000, 0x55)] }
    = { base with mem := [(0xC000, 0x55)] } := by rfl

/-- V-RS05: a tick of a latched state is refused. -/
theorem test_V_RS05 : step { base with fault := some { opcode := 0xD3, addr := 0x0100 } }
    = .refused (.faultLatched 0xD3 0x0100) := by rfl

/-- V-HO03, V-HO04: the two refusals of the range operations. -/
theorem test_V_HO03_V_HO04 : setMemRange 0x0100 0x0103 [1, 2, 3] base = .refused .hostDataLength
    ∧ getMemRange 0x0005 0x0004 base = .error .hostRange := ⟨rfl, rfl⟩

/-- V-ST01, V-ST02: push three bytes, pop three bytes. -/
theorem test_V_ST01_V_ST02 :
    (({ base with sp := 0xD000 }).push [0xAA, 0xBB, 0xCC]).mem
      = [(0xCFFE, 0xCC), (0xCFFF, 0xBB), (0xD000, 0xAA)]
    ∧ ((({ base with sp := 0xD000 }).push [0xAA, 0xBB, 0xCC]).pop 3).1 = [0xCC, 0xBB, 0xAA] := by
  decide

/-- V-ST04: push and pop across address 0. -/
theorem test_V_ST04 :
    (({ base with sp := 0x0000 }).push16 0x1234).mem = [(0x0000, 0x12), (0xFFFF, 0x34)]
    ∧ (({ base with sp := 0x0000 }).push16 0x1234).pop16.1 = 0x1234 := by
  decide

/-- Storing 0x00 removes the entry, so equal memories are equal lists. -/
theorem test_memory_is_canonical : Memory.write (Memory.write [] 0xC000 0x55) 0xC000 0x00 = [] := by
  decide

/-- `withFetchWord`: the next step runs the word (ADD A,d8 with d8 = 0xC6, on A = 0x01). -/
theorem test_withFetchWord : ticksTo [] (State.reset.withFetchWord 16 0xC6C6)
    fun t => { t with a := 0xC7, f := 0x00, pc := 0x0102 } := by rfl

/-! ## The hypotheses of the statements are met -/

/-- The base state is canonical, live and meets the invariant. -/
theorem witness_base : base.mem.wf = true ∧ base.fault = none ∧ base.Inv := by
  refine ⟨rfl, rfl, rfl, ?_⟩; decide

/-- FlagPrimitivesTouchOneBit: another bit than the flag's. -/
theorem witness_otherBit : (6 : Nat) ≠ flagBit .Z := by decide

/-- HostMemoryOperations: each clause at the edge of its range. -/
theorem witness_hostRanges : 0xFFFF ≤ 0xFFFF ∧ 0xFFFF < 0x10000
    ∧ (0xFFFF ≤ 0xFFFF ∧ 0xFFFF ≤ 0xFFFF) ∧ ¬ (0x0005 ≤ 0x0004 ∧ 0x0004 ≤ 0xFFFF)
    ∧ ¬ (0x0000 ≤ 0x10000 ∧ 0x10000 ≤ 0xFFFF)
    ∧ (0xFFFF ≤ 0xFFFF ∧ 0xFFFF ≤ 0xFFFF ∧ [0x12#8].length = 0xFFFF - 0xFFFF + 1)
    ∧ (0x0100 ≤ 0x0103 ∧ 0x0103 ≤ 0xFFFF ∧ [1#8, 2#8, 3#8].length ≠ 0x0103 - 0x0100 + 1) := by
  decide

/-- LoadFromRestoresTheClone: an accepted sequence of events. -/
theorem witness_acceptedEvents :
    ∃ t, applyEvents [.setMemRange 0x0100 0x0101 [0x3E, 0x42], .tick] base = .next t := ⟨_, rfl⟩

/-- LaunchStateAndFirstFetch: the byte at 0x0100 of an empty memory is 0x00. -/
theorem witness_launch : Memory.read [] 0x0100 = 0x00 := rfl

/-- DecodeOfEncode: well-formed terms of each class. -/
theorem witness_wellFormed : (Instr.unknown 0x00).wf = true ∧ (Instr.unknown 0xFB).wf = true
    ∧ (Instr.undefined 0xDB).wf = true ∧ (Instr.undefined 0xFD).wf = true
    ∧ (Instr.prefixCB 0xFF).wf = true ∧ (Instr.jp_a16 0xFFFF).wf = true := by decide

/-- EncodeOfDecode and StepRunsTheDecodedInstruction: bytes that decode. -/
theorem witness_decodes : decode [0xC3, 0x24, 0x35, 0x00] = .ok (.jp_a16 0x3524, [0x00]) := rfl

/-- The base state with one byte at PC. -/
def baseWith (b : Byte) : State := base.write8 0x0100 b

/-- StepOnUnimplementedBytes: a live state for each of its four classes, at the ends of each list. -/
theorem witness_byteClasses :
    (∀ b, (baseWith b).fault = none) ∧ (baseWith 0x00).read8 (baseWith 0x00).pc ∈ absentBytes
    ∧ (baseWith 0xFB).read8 (baseWith 0xFB).pc ∈ absentBytes
    ∧ (baseWith 0xDB).read8 (baseWith 0xDB).pc ∈ Config.undefinedCandidates
    ∧ (baseWith 0xFD).read8 (baseWith 0xFD).pc ∈ Config.undefinedCandidates
    ∧ (baseWith 0xCB).read8 (baseWith 0xCB).pc = 0xCB
    ∧ (baseWith 0x41).read8 (baseWith 0x41).pc ∉ absentBytes
    ∧ (baseWith 0x41).read8 (baseWith 0x41).pc ∉ Config.undefinedCandidates
    ∧ (baseWith 0x41).read8 (baseWith 0x41).pc ≠ 0xCB := by
  refine ⟨fun _ => rfl, ?_⟩; decide

/-- StepOnUnimplementedBytes and PrefixRaisesAndCandidatesFollowTheParameter: the open parameter is one
of the two on every byte. -/
theorem witness_parameter (op : Byte) :
    Config.toleratesUndefined op = true ∨ Config.toleratesUndefined op = false := by
  cases Config.toleratesUndefined op <;> simp

/-- FaultIsPrecise, FaultLatchLifecycle, TickResults: steps that set the latch, in both its cases. -/
theorem witness_faults :
    (∃ t, step (baseWith 0xD3) = .next t ∧ t.fault = some { opcode := 0xD3, addr := 0x0100 })
    ∧ ∃ t, step (baseWith 0xCB) = .next t ∧ t.fault = some { opcode := 0x00, addr := 0x0101 } :=
  ⟨⟨_, rfl, rfl⟩, ⟨_, rfl, rfl⟩⟩

/-- FaultLatchLifecycle: accepted host writes, and a latched state. -/
theorem witness_latchLifecycle : (∃ t, setMem 0xFFFF 0x12 base = .next t)
    ∧ (∃ t, setMemRange 0xFFFF 0xFFFF [0x12] base = .next t)
    ∧ ∃ s : State, s.fault = some { opcode := 0xD3, addr := 0x0100 } :=
  ⟨⟨_, rfl⟩, ⟨_, rfl⟩, ⟨{ base with fault := some { opcode := 0xD3, addr := 0x0100 } }, rfl⟩⟩

/-- StepKeepsInvariant: a state with the invariant that steps. -/
theorem witness_invariantStep : ∃ t, (baseWith 0x41).Inv ∧ step (baseWith 0x41) = .next t :=
  ⟨_, ⟨rfl, by decide⟩, rfl⟩

/-- ReachableStatesMeetInvariant: a reachable state. -/
theorem witness_reachable : Reachable base := Reachable.launched [] rfl

/-- LowNibbleOfFIsPreserved, OnlyStoredBytesChange, OtherInstructionsKeepF, OnlySpWritersChangeSp,
PcAdvancesByLength: an instruction of no excluded class that runs. -/
theorem witness_classes : writesFlags .ld_B_C = false ∧ writesSp .ld_B_C = false
    ∧ isControlFlow .ld_B_C = false ∧ isUnimplemented .ld_B_C = false
    ∧ ∃ t, exec .ld_B_C base = .next t := ⟨rfl, rfl, rfl, rfl, _, rfl⟩

/-- OnlyStoredBytesChange: a taken and an untaken store, and an address outside the stored bytes. -/
theorem witness_storedBy : storedBy base (.call_a16 0x2000) = [0xFFFE, 0xFFFD]
    ∧ storedBy base (.call_NZ_a16 0x2000) = [] ∧ (0xC000 : Word) ∉ [0xFFFE, (0xFFFD : Word)] := by
  decide

/-- SubtractAndHalfCarryAreNeverRead: a flag byte that differs in N and in H and nowhere else. -/
theorem witness_flagByte : (0xD0#8).getLsbD 6 ≠ base.f.getLsbD 6
    ∧ (0xD0#8).getLsbD 5 ≠ base.f.getLsbD 5
    ∧ ∀ k, k ≠ 6 → k ≠ 5 → (0xD0#8).getLsbD k = base.f.getLsbD k := by
  refine ⟨by decide, by decide, fun k h6 h5 => ?_⟩
  by_cases lt : k < 8
  · have all : ∀ k < 8, k ≠ 6 → k ≠ 5 → (0xD0#8).getLsbD k = base.f.getLsbD k := by decide
    exact all k lt h6 h5
  · rw [BitVec.getLsbD_of_ge _ _ (Nat.le_of_not_lt lt), BitVec.getLsbD_of_ge _ _ (Nat.le_of_not_lt lt)]

/-- FinishedStateIsFixed: both finished states. -/
theorem witness_finished : ((base.write8 0x0100 0x18).write8 0x0101 0xFE).Finished
    ∧ ((base.write8 0x0100 0xC3).write8 0x0102 0x01).Finished :=
  ⟨⟨rfl, .inl rfl⟩, ⟨rfl, .inr rfl⟩⟩

/-- ConditionalJumps, CallsPushAndJump, ReturnsPopPc: each condition holds somewhere and fails somewhere. -/
theorem witness_conditions :
    Holds { base with f := 0x00 } .NZ ∧ ¬ Holds { base with f := 0x80 } .NZ
    ∧ Holds { base with f := 0x80 } .Z ∧ ¬ Holds { base with f := 0x00 } .Z
    ∧ Holds { base with f := 0x00 } .NC ∧ ¬ Holds { base with f := 0x10 } .NC
    ∧ Holds { base with f := 0x10 } .C ∧ ¬ Holds { base with f := 0x00 } .C :=
  ⟨rfl, nofun, rfl, nofun, rfl, nofun, rfl, nofun⟩

/-- PopReversesPush: a data list within the bound. -/
theorem witness_pushedData : [0xAA#8, 0xBB#8, 0xCC#8].length ≤ 65536 := by decide

end Sys2Proof.Tests
end

/-! The state family (spec/10_state.md): the pair views (R22), the flag primitives (R27) and the
invisibility of the fault latch (R38). -/

namespace Sys2Proof.Machine

/-! ## Register pairs and flags -/

/-- Settles O3: each view is `joinBytes` of its two registers, read back from the halves written. -/
theorem pairIsTwoRegisters : Obligations.PairIsTwoRegisters := by
  intro s n
  have views : (s.pair .AF).toNat = s.a.toNat * 256 + s.f.toNat
      ∧ (s.pair .BC).toNat = s.b.toNat * 256 + s.c.toNat
      ∧ (s.pair .DE).toNat = s.d.toNat * 256 + s.e.toNat
      ∧ (s.pair .HL).toNat = s.h.toNat * 256 + s.l.toNat :=
    ⟨joinBytes_toNat .., joinBytes_toNat .., joinBytes_toNat .., joinBytes_toNat ..⟩
  exact ⟨views, fun p => setPair_pair s p n, rfl, rfl, rfl, rfl⟩

/-- A flag read after a flag write: the value where it is that flag, else as before. -/
@[simp] theorem setFlagTo_flag (s : State) (x y : Flag) (v : Bool) :
    (s.setFlagTo x v).flag y = if y = x then v else s.flag y :=
  flagOf_withFlag s.f x y v

/-- Settles O4, bit by bit from `withFlag_getLsbD`. -/
theorem flagPrimitivesTouchOneBit : Obligations.FlagPrimitivesTouchOneBit := by
  intro s x v
  have otherBits : ∀ k, k ≠ flagBit x → (s.setFlagTo x v).f.getLsbD k = s.f.getLsbD k := by
    intro k ne
    rw [setFlagTo_f, withFlag_getLsbD, if_neg ne]
  have ownFlag : (s.setFlagTo x v).flag x = v := by simp
  exact ⟨⟨rfl, rfl, rfl, rfl⟩, ownFlag, otherBits, rfl, rfl, rfl⟩

/-! ## The latch -/

/-- Both results are next states, equal in every field but the latch. -/
def SameButLatch (x y : Result) : Prop :=
  ∃ t u, x = .next t ∧ y = .next u ∧ { u with fault := t.fault } = t

section
variable (s : State) (r : Option FaultRecord)

/-- A choice that both states make alike, between branches that keep them equal but for the latch. -/
theorem sameButLatch_ite {p : Prop} [Decidable p] {t t' u u' : State}
    (yes : { u with fault := t.fault } = t) (no : { u' with fault := t'.fault } = t') :
    SameButLatch (.next (if p then t else t')) (.next (if p then u else u')) := by
  split
  · exact ⟨t, u, rfl, rfl, yes⟩
  · exact ⟨t', u', rfl, rfl, no⟩

/-- A condition reads F only (R195), so a conditional transfer is such a choice. -/
theorem sameButLatch_cond (cc : Cond) {t t' u u' : State}
    (taken : { u with fault := t.fault } = t) (notTaken : { u' with fault := t'.fault } = t') :
    SameButLatch (.next (if s.cond cc then t else t'))
      (.next (if State.cond { s with fault := r } cc then u else u')) := by
  have decideAlike : State.cond { s with fault := r } cc = s.cond cc := by cases cc <;> rfl
  rw [decideAlike]
  exact sameButLatch_ite taken notTaken

/-- A tolerated candidate keeps each state's latch; one that is not gives both the same record. -/
theorem candidateOpcode_sameButLatch (tolerates : Byte → Bool) (op : Byte) :
    SameButLatch (candidateOpcode tolerates op s)
      (candidateOpcode tolerates op { s with fault := r }) :=
  sameButLatch_ite rfl rfl

/-- The meanings that choose between two next states go by their choice. Every other meaning is one
chain of updates, none of which reads the latch, so the two next states agree by evaluation. -/
theorem exec_sameButLatch (i : Instr) : SameButLatch (exec i s) (exec i { s with fault := r }) := by
  cases i with
  | jp_NZ_a16 | jp_Z_a16 | jp_NC_a16 | jp_C_a16
  | jr_NZ_e8 | jr_Z_e8 | jr_NC_e8 | jr_C_e8
  | call_NZ_a16 | call_Z_a16 | call_NC_a16 | call_C_a16
  | ret_NZ | ret_Z | ret_NC | ret_C => exact sameButLatch_cond s r _ rfl rfl
  | undefined => exact candidateOpcode_sameButLatch ..
  | _ => exact ⟨_, _, rfl, rfl, rfl⟩

end

/-- Settles O17, from `exec_sameButLatch`. -/
theorem faultLatchIsInvisible : Obligations.FaultLatchIsInvisible :=
  fun i s r => exec_sameButLatch s r i

end Sys2Proof.Machine

/-! The stack of the memory family (spec/20_memory.md): `push16` (R58), `pop16` (R60) and their round
trip (R61), for every SP, the wrapping ones included (D11). -/

namespace Sys2Proof.Machine

/-! ## Where the popped bytes lie after a push -/

section
variable (s : State) (v : Word)

theorem push16_sp_eq_sub_two : (s.push16 v).sp = s.sp - 2 := BitVec.sub_sub s.sp 1 1

/-- The high byte is popped from the address it was pushed to, and SP comes back to it. -/
theorem push16_sp_add_two : (s.push16 v).sp + 2 = s.sp := by
  rw [push16_sp_eq_sub_two, BitVec.sub_add_cancel]

/-- The low byte is popped from the address it was pushed to. -/
theorem push16_sp_add_one : (s.push16 v).sp + 1 = s.sp - 1 := BitVec.sub_add_cancel (s.sp - 1) 1

theorem push16_memKept : Claims.MemKept s (s.push16 v) [s.sp, s.sp - 1] := by
  intro q outside
  obtain ⟨notHigh, notLow⟩ : q ≠ s.sp ∧ q ≠ s.sp - 1 := by simpa using outside
  exact push16_read8_other s v notHigh notLow

end

/-! ## The round trip -/

theorem push16_pop16_word {s : State} (h : s.mem.wf = true) (v : Word) :
    (s.push16 v).pop16.1 = v := by
  rw [State.pop16, push16_sp_add_two, push16_sp_add_one, push16_read8_high h, push16_read8_low h,
    joinBytes_hiByte_loByte]

theorem push16_pop16_sp (s : State) (v : Word) : (s.push16 v).pop16.2.sp = s.sp :=
  push16_sp_add_two s v

/-- Settles O52: the popped addresses are the pushed ones, for every SP. -/
theorem push16ThenPop16 : Obligations.Push16ThenPop16 := by
  intro s v
  have pushes : (s.push16 v).sp = s.sp - 2 ∧ Claims.MemKept s (s.push16 v) [s.sp, s.sp - 1]
      ∧ { s.push16 v with sp := s.sp, mem := s.mem } = s :=
    ⟨push16_sp_eq_sub_two s v, push16_memKept s v, rfl⟩
  exact ⟨pushes, ⟨rfl, pop16_snd s⟩, fun h => ⟨push16_read8_high h v, push16_read8_low h v,
    push16_pop16_word h v, push16_pop16_sp s v⟩⟩

end Sys2Proof.Machine

/-! The load and store family (spec/40_load_store.md): a load writes one register (R111, R112, R114, R115,
R122, R124, R126), a store one byte (R113, R116, R117, R121, R123, R125), the LDI and LDD forms HL as well
(R127 to R130). Each instruction is one of five shared operations, whose effect Laws/Ops.lean states. -/

namespace Sys2Proof.Machine

open Claims

/-! ## The parts of a frame -/

section
variable {s t : State}

theorem regsKept_nil : RegsKept s t [] ↔ ∀ x, t.reg x = s.reg x := by simp [RegsKept]

theorem regsKept_singleton {d : Reg8} : RegsKept s t [d] ↔ ∀ x, x ≠ d → t.reg x = s.reg x := by
  simp [RegsKept]

theorem memKept_singleton {adr : Word} :
    MemKept s t [adr] ↔ ∀ q, q ≠ adr → t.read8 q = s.read8 q := by
  simp [MemKept]

/-- An instruction that stores nothing keeps every byte. -/
theorem memKept_of_mem_eq (kept : t.mem = s.mem) (stored : List Word) : MemKept s t stored :=
  fun q _ => congrArg (Memory.read · q.toNat) kept

end

/-! ## An instruction that is one of the shared operations -/

section
variable {i : Instr} {s : State}

theorem loadsByte_of_exec {d : Reg8} {adr len : Word} (run : exec i s = loadRegFrom d adr len s) :
    LoadsByte i s d adr len := by
  obtain ⟨t, next, loaded, regs, mem, latch, f, sp, pc⟩ := loadRegFrom_spec s d adr len
  have frame : Frame s t [d] [] := ⟨regsKept_singleton.2 regs, memKept_of_mem_eq mem [], latch⟩
  exact ⟨t, run.trans next, loaded, frame, f, sp, pc⟩

theorem storesByte_of_exec {adr len : Word} {v : Byte} (run : exec i s = storeByteAt adr v len s) :
    StoresByte i s adr v len := by
  obtain ⟨t, next, stored, bytes, regs, latch, f, sp, pc⟩ := storeByteAt_spec s adr v len
  have frame : Frame s t [] [adr] := ⟨regsKept_nil.2 regs, memKept_singleton.2 bytes, latch⟩
  exact ⟨t, run.trans next, stored, frame, f, sp, pc⟩

/-- Both directions of R128 and R130, for any new value `n` of HL. -/
theorem loadsAThenSetsHl_of_exec {n : Word} (run : exec i s = loadAThenSetHl n s) :
    ∃ t, exec i s = .next t ∧ t.a = s.read8 (s.pair .HL) ∧ t.pair .HL = n
      ∧ Frame s t [.A, .H, .L] [] ∧ t.f = s.f ∧ t.sp = s.sp ∧ t.pc = s.pc + 1 := by
  obtain ⟨t, next, loaded, hl, regs, mem, latch, f, sp, pc⟩ := loadAThenSetHl_spec s n
  have frame : Frame s t [.A, .H, .L] [] := ⟨regs, memKept_of_mem_eq mem [], latch⟩
  exact ⟨t, run.trans next, loaded, hl, frame, f, sp, pc⟩

/-- Both directions of R127 and R129, for any new value `n` of HL. -/
theorem storesAThenSetsHl_of_exec {n : Word} (run : exec i s = storeAThenSetHl n s) :
    ∃ t, exec i s = .next t ∧ (s.mem.wf = true → t.read8 (s.pair .HL) = s.a) ∧ t.pair .HL = n
      ∧ Frame s t [.H, .L] [s.pair .HL] ∧ t.f = s.f ∧ t.sp = s.sp ∧ t.pc = s.pc + 1 := by
  obtain ⟨t, next, stored, bytes, hl, regs, latch, f, sp, pc⟩ := storeAThenSetHl_spec s n
  have frame : Frame s t [.H, .L] [s.pair .HL] := ⟨regs, memKept_singleton.2 bytes, latch⟩
  exact ⟨t, run.trans next, stored, hl, frame, f, sp, pc⟩

end

/-! ## The statements -/

/-- Settles O31: each form is `loadRegFrom` with its own address and length. -/
theorem loadRegisterFromMemory : Obligations.LoadRegisterFromMemory := by
  intro s
  exact ⟨fun d => loadsByte_of_exec (exec_ldRegMem s d), loadsByte_of_exec rfl, loadsByte_of_exec rfl,
    fun _ => loadsByte_of_exec rfl, fun _ => loadsByte_of_exec rfl, loadsByte_of_exec rfl⟩

/-- Settles O32: each form is `storeByteAt` with its own address, byte and length. -/
theorem storeRegisterToMemory : Obligations.StoreRegisterToMemory := by
  intro s
  exact ⟨fun r => storesByte_of_exec (exec_ldMemReg s r), storesByte_of_exec rfl, storesByte_of_exec rfl,
    fun _ => storesByte_of_exec rfl, fun _ => storesByte_of_exec rfl, storesByte_of_exec rfl⟩

/-- Settles O35: LDI and LDD differ in the new value of HL alone. -/
theorem storeAndStepHl : Obligations.StoreAndStepHl :=
  fun _ => ⟨storesAThenSetsHl_of_exec rfl, storesAThenSetsHl_of_exec rfl⟩

/-- Settles O30: all forms are `loadRegReg`. -/
theorem loadRegisterFromRegister : Obligations.LoadRegisterFromRegister := by
  intro d r s
  obtain ⟨t, next, copied, regs, mem, latch, f, sp, pc⟩ := loadRegReg_spec s d r
  have frame : Frame s t [d] [] := ⟨regsKept_singleton.2 regs, memKept_of_mem_eq mem [], latch⟩
  exact ⟨t, (exec_ldRegReg s d r).trans next, copied, frame, f, sp, pc⟩

/-- Settles O34: LDI and LDD differ in the new value of HL alone. -/
theorem loadAndStepHl : Obligations.LoadAndStepHl :=
  fun _ => ⟨loadsAThenSetsHl_of_exec rfl, loadsAThenSetsHl_of_exec rfl⟩

end Sys2Proof.Machine

/-! The additions of the arithmetic family (spec/41_arithmetic.md): ADD A (R153, R155), ADD SP,e8 (R170)
and LDHL SP,e8 (R171). -/

namespace Sys2Proof.Machine

open Claims

section
variable {i : Instr} {s : State}

/-- An instruction that is ADD: A takes the wrapped sum, with R151's flags at carry-in 0. -/
theorem aluGives_of_exec_eq_addA {src : AluSrc} (run : exec i s = addA src s) :
    AluGives i s (s.a + s.aluOperand src) (decide (s.a + s.aluOperand src = 0)) false
      (decide (0x0F < s.a.toNat % 16 + (s.aluOperand src).toNat % 16))
      (decide (0xFF < s.a.toNat + (s.aluOperand src).toNat)) (aluLength src) := by
  obtain ⟨t, next, sum, z, n, h, c, low, regs, mem, latch, sp, pc⟩ := addA_spec s src
  have frame : Frame s t [.A] [] := ⟨regsKept_singleton.2 regs, memKept_of_mem_eq mem [], latch⟩
  exact ⟨t, run.trans next, sum, ⟨z, n, h, c, low⟩, frame, sp, pc⟩

end

/-- Settles O37: every form is ADD with its own operand. -/
theorem addToAccumulator : Obligations.AddToAccumulator :=
  fun s => ⟨fun r => aluGives_of_exec_eq_addA (exec_add s (.reg r)),
    fun d8 => aluGives_of_exec_eq_addA (exec_add s (.imm d8))⟩

/-! ## The signed byte added to SP -/

/-- R169's flags: Z and N cleared, H out of bit 11 and C out of bit 15 (conflict C3), written to a state
`u` that holds the F of `s`. -/
theorem flagsAre_addSp {s u : State} (sameF : u.f = s.f) (sp : Word) (e8 : Byte) :
    FlagsAre s (u.flags (some false) (some false) (some (addSp sp e8).h) (some (addSp sp e8).c))
      false false (decide (0x0FFF < sp.toNat % 4096 + (sext16 e8).toNat % 4096))
      (decide (0xFFFF < sp.toNat + (sext16 e8).toNat)) := by
  have lowNibble := flags_lowNibble u (some false) (some false) (some (addSp sp e8).h)
    (some (addSp sp e8).c)
  rw [sameF] at lowNibble
  exact ⟨flags_flag_Z .., flags_flag_N .., flags_flag_H .., flags_flag_C .., lowNibble⟩

section
variable (s : State) (e8 : Byte)

theorem execAdd_SP_e8_spec : ∃ t, execAdd_SP_e8 e8 s = .next t ∧ t.sp = s.sp + sext16 e8
    ∧ FlagsAre s t false false (decide (0x0FFF < s.sp.toNat % 4096 + (sext16 e8).toNat % 4096))
      (decide (0xFFFF < s.sp.toNat + (sext16 e8).toNat))
    ∧ Frame s t [] [] ∧ t.pc = s.pc + 2 := by
  refine ⟨_, rfl, add16_result .., flagsAre_addSp rfl s.sp e8, ⟨?_, memKept_of_mem_eq rfl [], rfl⟩, rfl⟩
  exact regsKept_nil.2 fun r => by cases r <;> rfl

theorem execLdhl_SP_e8_spec : ∃ t, execLdhl_SP_e8 e8 s = .next t ∧ t.pair .HL = s.sp + sext16 e8
    ∧ FlagsAre s t false false (decide (0x0FFF < s.sp.toNat % 4096 + (sext16 e8).toNat % 4096))
      (decide (0xFFFF < s.sp.toNat + (sext16 e8).toNat))
    ∧ Frame s t [.H, .L] [] ∧ t.sp = s.sp ∧ t.pc = s.pc + 2 := by
  have sum : (s.setPair .HL (addSp s.sp e8).result).pair .HL = s.sp + sext16 e8 :=
    (setPair_pair s .HL _).trans (add16_result ..)
  refine ⟨_, rfl, sum, flagsAre_addSp rfl s.sp e8, ⟨?_, memKept_of_mem_eq rfl [], rfl⟩, rfl, rfl⟩
  intro r outside
  rw [advance_reg, flags_reg, setPair_HL_reg s _ outside]

end

/-- Settles O43: `sext16_toNat` gives R10's two cases, the rest is one lemma for each instruction. -/
theorem addSignedToSp : Obligations.AddSignedToSp := by
  intro e8 s
  have signExtension : (e8.toNat < 0x80 → (sext16 e8).toNat = e8.toNat)
      ∧ (0x80 ≤ e8.toNat → (sext16 e8).toNat = 0xFF00 + e8.toNat) := by
    rw [sext16_toNat]
    exact ⟨fun low => if_pos low, fun high => if_neg (Nat.not_lt.2 high)⟩
  exact ⟨signExtension, execAdd_SP_e8_spec s e8, execLdhl_SP_e8_spec s e8⟩

end Sys2Proof.Machine

/-! The control-flow family (spec/43_control_flow.md): JP (R196, R197), JR (R198, R199), CALL (R200, R201)
and RET (R202, R203). A meaning answers one of three next states (PC moved, a call, a return), and a
conditional form chooses between two of them by R195's flag test. -/

namespace Sys2Proof.Machine

open Claims

/-! ## The conditions (R195) -/

theorem cond_iff_holds (s : State) (cc : Cond) : s.cond cc = true ↔ Holds s cc := by
  cases cc <;> simp [State.cond, Holds]

section
variable {s : State} {cc : Cond} {α : Type}

theorem ite_cond_of_holds (holds : Holds s cc) (x y : α) : (if s.cond cc then x else y) = x :=
  if_pos ((cond_iff_holds s cc).2 holds)

theorem ite_cond_of_not_holds (fails : ¬ Holds s cc) (x y : α) : (if s.cond cc then x else y) = y :=
  if_neg (mt (cond_iff_holds s cc).1 fails)

end

/-! ## The three next states -/

/-- PC and SP are outside the frame: it names the 8-bit registers, the memory and the latch. -/
theorem frame_set_sp_pc (s : State) (sp pc : Word) : Frame s { s with sp := sp, pc := pc } [] [] :=
  ⟨regsKept_nil.2 fun r => by cases r <;> rfl, memKept_of_mem_eq rfl [], rfl⟩

theorem memKept_pair {s t : State} {x y : Word} :
    MemKept s t [x, y] ↔ ∀ q, q ≠ x → q ≠ y → t.read8 q = s.read8 q := by
  simp [MemKept]

section
variable {i : Instr} {s : State}

theorem onlyMovesPc_of_exec {target : Word} (run : exec i s = .next { s with pc := target }) :
    OnlyMovesPc i s target :=
  ⟨_, run, rfl, frame_set_sp_pc s s.sp target, rfl, rfl⟩

/-- A call from an instruction of `len` bytes: the return address is the one after it. -/
theorem callsTo_of_exec {target len : Word} (run : exec i s = .next (s.callTo target len)) :
    CallsTo i s (s.pc + len) target := by
  obtain ⟨pc, sp, pushed, bytes, regs, latch, f⟩ := callTo_spec s target len
  have frame : Frame s (s.callTo target len) [] [s.sp, s.sp - 1] :=
    ⟨regsKept_nil.2 regs, memKept_pair.2 bytes, latch⟩
  exact ⟨_, run, pc, sp, pushed, frame, f⟩

theorem returns_of_exec (run : exec i s = .next s.returnFrom) : Returns i s := by
  rw [returnFrom_spec] at run
  exact ⟨_, run, rfl, rfl, frame_set_sp_pc .., rfl⟩

end

/-! ## The statements -/

/-- Settles O48: each form moves PC to a choice of two addresses, made by the condition. -/
theorem conditionalJumps : Obligations.ConditionalJumps := by
  intro cc s
  have jp (a16 : Word) := onlyMovesPc_of_exec ((exec_jpCond s cc a16).trans (jpIf_spec s cc a16))
  have jr (e8 : Byte) := onlyMovesPc_of_exec ((exec_jrCond s cc e8).trans (jrIf_spec s cc e8))
  simp only [jrTarget_eq] at jr
  constructor
  · intro holds
    simp only [ite_cond_of_holds holds] at jp jr
    exact ⟨jp, jr⟩
  · intro fails
    simp only [ite_cond_of_not_holds fails] at jp jr
    exact ⟨jp, jr⟩

/-- Settles O49: taken, each form is `callTo`; not taken, PC moves and no byte is pushed. -/
theorem callsPushAndJump : Obligations.CallsPushAndJump := by
  intro a16 s
  refine ⟨callsTo_of_exec rfl, fun cc => ⟨fun holds => callsTo_of_exec ?_,
    fun fails => onlyMovesPc_of_exec ?_⟩⟩
  · rw [exec_callCond, callIf_spec, ite_cond_of_holds holds]
  · rw [exec_callCond, callIf_spec, ite_cond_of_not_holds fails]

/-- Settles O47: `jrTarget_eq` gives JR's target on integers. -/
theorem unconditionalJumps : Obligations.UnconditionalJumps := by
  intro s
  refine ⟨fun _ => onlyMovesPc_of_exec rfl, fun e8 => ?_⟩
  rw [← jrTarget_eq]
  exact onlyMovesPc_of_exec rfl

/-- Settles O50: taken, each form is `returnFrom`; not taken, PC moves past the byte. -/
theorem returnsPopPc : Obligations.ReturnsPopPc := by
  intro s
  refine ⟨returns_of_exec rfl, fun cc => ⟨fun holds => returns_of_exec ?_,
    fun fails => onlyMovesPc_of_exec ?_⟩⟩
  · rw [exec_retCond, retIf_spec, ite_cond_of_holds holds]
  · rw [exec_retCond, retIf_spec, ite_cond_of_not_holds fails]

end Sys2Proof.Machine

/-! The exception family (spec/60_exceptions.md): a step that sets the latch changes nothing else (R230,
R233). `exec` either keeps the latch or raises a record that its instruction fixes, and the decoder fixes
that instruction from the byte at PC. -/

namespace Sys2Proof.Machine

/-! ## What an instruction does to the latch -/

/-- The record an instruction at `pc` raises, if it raises one (R215 to R217). -/
def raisedRecord (pc : Word) : Instr → Option FaultRecord
  | .unknown op | .undefined op => some { opcode := op, addr := pc }
  | .prefixCB b1 => some { opcode := b1, addr := pc + 1 }
  | _ => none

theorem ite_fault {s t u : State} {p : Prop} [Decidable p] (yes : t.fault = s.fault)
    (no : u.fault = s.fault) : (if p then t else u).fault = s.fault := by
  split
  · exact yes
  · exact no

/-- What `exec` can do to the latch. The next state of an instruction with no record is one chain of
updates, or a choice between two, none of which writes the latch. -/
theorem exec_keepsLatch_or_raises {i : Instr} {s t : State} (run : exec i s = .next t) :
    t.fault = s.fault ∨ ∃ r, raisedRecord s.pc i = some r ∧ t = { s with fault := some r } := by
  cases i with
  | unknown | prefixCB => cases run; exact .inr ⟨_, rfl, rfl⟩
  | undefined op =>
    cases run
    split
    · exact .inl rfl
    · exact .inr ⟨_, rfl, rfl⟩
  | jp_NZ_a16 | jp_Z_a16 | jp_NC_a16 | jp_C_a16
  | jr_NZ_e8 | jr_Z_e8 | jr_NC_e8 | jr_C_e8
  | call_NZ_a16 | call_Z_a16 | call_NC_a16 | call_C_a16
  | ret_NZ | ret_Z | ret_NC | ret_C => cases run; exact .inl (ite_fault rfl rfl)
  | _ => cases run; exact .inl rfl

/-! ## The record from the byte at PC -/

/-- What the table must say of byte `op`, with the operands `b` and `w`: an instruction it holds raises
nothing, and the prefix cell (R90) is the cell of 0xCB. -/
def cellRaisesByClass (op b : Byte) (w pc : Word) : Entry → Bool
  | .implied i => (raisedRecord pc i).isNone
  | .imm8 f => (raisedRecord pc (f b)).isNone
  | .imm16 f => (raisedRecord pc (f w)).isNone
  | .absent | .candidate => decide (op ≠ 0xCB)
  | .cbPrefix => decide (op = 0xCB)

set_option maxRecDepth 2000 in
/-- By evaluation of each cell of the table (R88); no cell looks at the values of its operands. -/
theorem tableEntry_raisesByClass (op b : Byte) (w pc : Word) :
    cellRaisesByClass op b w pc (tableEntry op) = true := by
  have cells : ((List.range 256).all fun n =>
      cellRaisesByClass (.ofNat 8 n) b w pc (tableEntry (.ofNat 8 n))) = true := rfl
  exact forall_byte (P := fun op => cellRaisesByClass op b w pc (tableEntry op) = true)
    (fun n lt => List.all_eq_true.1 cells n (List.mem_range.2 lt)) op

/-- What a decoded instruction raises, if anything: the first byte at its own address, or, after the
prefix, the second byte at its own. -/
theorem raisedRecord_decodeBytes {op b1 b2 : Byte} {pc : Word} {r : FaultRecord}
    (raises : raisedRecord pc (decodeBytes op b1 b2) = some r) :
    (op ≠ 0xCB ∧ r = { opcode := op, addr := pc })
      ∨ (op = 0xCB ∧ r = { opcode := b1, addr := pc + 1 }) := by
  have byClass := tableEntry_raisesByClass op b1 (joinBytes b2 b1) pc
  unfold decodeBytes at raises
  generalize tableEntry op = entry at byClass raises
  cases entry with
  | implied | imm8 | imm16 => cases raises.symm.trans (Option.isNone_iff_eq_none.1 byClass)
  | absent | candidate => exact .inl ⟨of_decide_eq_true byClass, (Option.some.inj raises).symm⟩
  | cbPrefix => exact .inr ⟨of_decide_eq_true byClass, (Option.some.inj raises).symm⟩

/-- Settles O15: a live state has no record to keep, so the step raised the one of the bytes at PC. -/
theorem faultIsPrecise : Obligations.FaultIsPrecise := by
  intro s t r next latched
  obtain ⟨live, run⟩ := step_next next
  obtain keeps | ⟨r', raises, rfl⟩ := exec_keepsLatch_or_raises run
  · simp [keeps, live] at latched
  · obtain rfl : r' = r := by simpa using latched
    exact ⟨rfl, raisedRecord_decodeBytes raises⟩

end Sys2Proof.Machine

/-! The reset and host family (spec/70_reset_and_hazards.md): the power-on values (R263) and the memory
operations of the host (R264). Host ranges do not wrap, so the bytes of a range have rising addresses and
no byte of it is stored over. -/

namespace Sys2Proof.Machine

/-! ## Reset -/

/-- Settles O1: a pair of two literal registers is a literal word, and memory is not written. -/
theorem initLoadsPowerOnValues : Obligations.InitLoadsPowerOnValues := by
  intro s
  have af : (hostInit s).pair .AF = 0x01B0 := show joinBytes 0x01 0xB0 = 0x01B0 from rfl
  have bc : (hostInit s).pair .BC = 0x0013 := show joinBytes 0x00 0x13 = 0x0013 from rfl
  have de : (hostInit s).pair .DE = 0x00D8 := show joinBytes 0x00 0xD8 = 0x00D8 from rfl
  have hl : (hostInit s).pair .HL = 0x014D := show joinBytes 0x01 0x4D = 0x014D from rfl
  exact ⟨af, bc, de, hl, rfl, rfl, memKept_of_mem_eq rfl [], rfl⟩

/-! ## Reading a range -/

section
variable (m : Memory)

@[simp] theorem readRange_length (i n : Nat) : (Memory.readRange m i n).length = n := by
  induction n generalizing i with
  | zero => rfl
  | succ n ih => exact congrArg (· + 1) (ih (i + 1))

theorem readRange_getElem? {k n : Nat} (i : Nat) (lt : k < n) :
    (Memory.readRange m i n)[k]? = some (Memory.read m (i + k)) := by
  induction n generalizing i k with
  | zero => cases lt
  | succ n ih =>
    cases k with
    | zero => rfl
    | succ k =>
      rw [show i + (k + 1) = i + 1 + k by omega]
      exact ih (i + 1) (Nat.lt_of_succ_lt_succ lt)

/-! ## Writing a range -/

theorem read_writeRange_outside {i q : Nat} {data : List Byte}
    (outside : q < i ∨ i + data.length ≤ q) :
    Memory.read (Memory.writeRange m i data) q = Memory.read m q := by
  induction data generalizing m i with
  | nil => rfl
  | cons v rest ih =>
    rw [List.length_cons] at outside
    calc Memory.read (Memory.writeRange (Memory.write m i v) (i + 1) rest) q
      _ = Memory.read (Memory.write m i v) q := ih _ (by omega)
      _ = Memory.read m q := read_write_other m v (by omega)

end

/-- Every byte stored is read back, in a canonical memory and where the range does not leave the array:
the first byte survives the stores above it, and its store keeps the canonical form for them. -/
theorem read_writeRange_inside {m : Memory} (h : m.wf = true) {i k : Nat} {data : List Byte}
    (fits : i + data.length ≤ 65536) (lt : k < data.length) :
    some (Memory.read (Memory.writeRange m i data) (i + k)) = data[k]? := by
  induction data generalizing m i k with
  | nil => cases lt
  | cons v rest ih =>
    rw [List.length_cons] at fits lt
    cases k with
    | zero =>
      have survives : Memory.read (Memory.writeRange (Memory.write m i v) (i + 1) rest) i
          = Memory.read (Memory.write m i v) i :=
        read_writeRange_outside _ (.inl (Nat.lt_succ_self i))
      exact congrArg some (survives.trans (read_write_same h i v))
    | succ k =>
      rw [show i + (k + 1) = i + 1 + k by omega]
      exact ih (write_wf h v (by omega)) (by omega) (by omega)

/-! ## The operations of the host, where they are accepted -/

theorem setMem_of_le {adr : Nat} (le : adr ≤ 0xFFFF) (v : Byte) (s : State) :
    setMem adr v s = .next { s with mem := Memory.write s.mem adr v } := if_pos le

theorem getMemRange_of_range {i j : Nat} (range : i ≤ j ∧ j ≤ 0xFFFF) (s : State) :
    getMemRange i j s = .ok (Memory.readRange s.mem i (j - i + 1)) := if_pos range

/-- Inside the array, only the length of the data decides. -/
theorem setMemRange_of_range {i j : Nat} (range : i ≤ j ∧ j ≤ 0xFFFF) (data : List Byte) (s : State) :
    setMemRange i j data s = if data.length = j - i + 1
      then .next { s with mem := Memory.writeRange s.mem i data }
      else .refused .hostDataLength := if_pos range

/-- Settles O5: an accepted operation is one read or write of the memory list, and each refusal is the
branch its requirement guards. -/
theorem hostMemoryOperations : Obligations.HostMemoryOperations := by
  refine ⟨fun adr v s => ⟨fun le => ?_, fun above => if_neg (Nat.not_le.2 above)⟩,
    fun i j s => ⟨fun range => ?_, fun noRange => if_neg noRange⟩,
    fun i j data s => ⟨?_, ?_, fun noRange => if_neg noRange⟩⟩
  · exact ⟨_, setMem_of_le le v s, fun h => read_write_same h adr v,
      fun q ne => read_write_other s.mem v ne, rfl⟩
  · exact ⟨_, getMemRange_of_range range s, readRange_length .., fun k le =>
      readRange_getElem? s.mem i (Nat.lt_succ_of_le le)⟩
  · rintro ⟨le, inArray, length⟩
    have accepted := (setMemRange_of_range ⟨le, inArray⟩ data s).trans (if_pos length)
    refine ⟨_, accepted, fun h k inside => ?_, fun q outside => ?_, rfl⟩
    · exact read_writeRange_inside h (by omega) (by omega)
    · exact read_writeRange_outside s.mem (by omega)
  · rintro ⟨le, inArray, badLength⟩
    exact (setMemRange_of_range ⟨le, inArray⟩ data s).trans (if_neg badLength)

end Sys2Proof.Machine

/-! The encoding family (spec/30_encoding.md): `encode` and `decode` are inverse (R81, R82, R92), and the
field patterns of the opcode byte (R83). -/

namespace Sys2Proof

/-! ## Decoding what was encoded -/

/-- A 16-bit operand is read from its two bytes, low byte first (R87). -/
theorem decode_word {op : Byte} {f : Word → Instr} (h : tableEntry op = .imm16 f) (w : Word)
    (rest : List Byte) : decode (op :: loByte w :: hiByte w :: rest) = .ok (f w, rest) := by
  rw [decode_imm16 h, joinBytes_hiByte_loByte]

/-- Settles O8: the table cell of the encoding's first byte holds the instruction, in its format. -/
theorem decodeOfEncode : Obligations.DecodeOfEncode := by
  intro i rest wf
  cases i with
  | unknown => exact decode_absent (tableEntry_absent (of_decide_eq_true wf))
  | undefined => exact decode_candidate (tableEntry_candidate (of_decide_eq_true wf))
  | prefixCB => exact decode_cbPrefix rfl
  | ld_BC_d16 | ld_DE_d16 | ld_HL_d16 | ld_SP_d16 | ld_ma16_A | ld_A_ma16 | ld_ma16_SP
  | jp_a16 | jp_NZ_a16 | jp_Z_a16 | jp_NC_a16 | jp_C_a16
  | call_a16 | call_NZ_a16 | call_Z_a16 | call_NC_a16 | call_C_a16 => exact decode_word rfl _ rest
  | ld_B_d8 | ld_C_d8 | ld_D_d8 | ld_E_d8 | ld_H_d8 | ld_L_d8 | ld_A_d8 | ld_mHL_d8
  | ldh_ma8_A | ldh_A_ma8 | add_A_d8 | adc_A_d8 | sub_d8 | and_d8 | xor_d8 | or_d8 | cp_d8
  | add_SP_e8 | ldhl_SP_e8 | jr_e8 | jr_NZ_e8 | jr_Z_e8 | jr_NC_e8 | jr_C_e8 =>
    exact decode_imm8 rfl
  | _ => exact decode_implied rfl

/-! ## Encoding what was decoded -/

/-- The instruction of a table cell, with its operand. -/
def Entry.instr (op b : Byte) (w : Word) : Entry → Instr
  | .implied i => i
  | .imm8 f => f b
  | .imm16 f => f w
  | .absent => .unknown op
  | .candidate => .undefined op
  | .cbPrefix => .prefixCB b

/-- The bytes of a table cell's format (R81), with its operand. -/
def Entry.bytes (op b : Byte) (w : Word) : Entry → List Byte
  | .implied _ | .absent | .candidate => [op]
  | .imm8 _ | .cbPrefix => [op, b]
  | .imm16 _ => [op, loByte w, hiByte w]

set_option maxRecDepth 2000 in
/-- The encoder agrees with each cell of the table (R88), by evaluation; no cell looks at the values of
its operands. -/
theorem tableEntry_encodes (op b : Byte) (w : Word) :
    ((tableEntry op).instr op b w).wf = true
      ∧ encode ((tableEntry op).instr op b w) = (tableEntry op).bytes op b w := by
  have cells : (List.range 256).map (fun n =>
        let i := (tableEntry (.ofNat 8 n)).instr (.ofNat 8 n) b w
        (i.wf, encode i))
      = (List.range 256).map fun n => (true, (tableEntry (.ofNat 8 n)).bytes (.ofNat 8 n) b w) := rfl
  have cell (n : Nat) (lt : n < 256) := List.map_inj_left.1 cells n (List.mem_range.2 lt)
  exact forall_byte (P := fun op => ((tableEntry op).instr op b w).wf = true
      ∧ encode ((tableEntry op).instr op b w) = (tableEntry op).bytes op b w)
    (fun n lt => ⟨congrArg Prod.fst (cell n lt), congrArg Prod.snd (cell n lt)⟩) op

theorem decodeBytes_eq_instr (op b1 b2 : Byte) :
    decodeBytes op b1 b2 = (tableEntry op).instr op b1 (joinBytes b2 b1) := by
  unfold decodeBytes
  cases tableEntry op <;> rfl

/-- Where the format's bytes are all there, they and the bytes after them are the whole string. -/
theorem Entry.bytes_append_drop {e : Entry} {op : Byte} {rest : List Byte}
    (enough : e.length ≤ rest.length + 1) :
    e.bytes op (rest.getD 0 0) (joinBytes (rest.getD 1 0) (rest.getD 0 0))
      ++ rest.drop (e.length - 1) = op :: rest := by
  cases e with
  | implied | absent | candidate => rfl
  | imm8 | cbPrefix =>
    match rest, enough with
    | _ :: _, _ => rfl
  | imm16 =>
    match rest, enough with
    | b1 :: b2 :: _, _ =>
      show op :: loByte (joinBytes b2 b1) :: hiByte (joinBytes b2 b1) :: _ = _
      rw [loByte_joinBytes, hiByte_joinBytes]
      rfl

/-- What a successful decode answers: the instruction of the first byte's cell, and the bytes after the
cell's format. -/
theorem decode_cons_ok {op : Byte} {tail rest : List Byte} {i : Instr}
    (read : decode (op :: tail) = .ok (i, rest)) :
    lengthOf op ≤ tail.length + 1 ∧ decodeBytes op (tail.getD 0 0) (tail.getD 1 0) = i
      ∧ tail.drop (lengthOf op - 1) = rest := by
  rw [decode] at read
  split at read
  · cases read
  · next enough =>
    cases read
    exact ⟨Nat.not_lt.1 enough, rfl, rfl⟩

/-- Settles O9: the first byte's cell gives the instruction, its well-formedness and its bytes. -/
theorem encodeOfDecode : Obligations.EncodeOfDecode := by
  intro bytes i rest read
  cases bytes with
  | nil => cases read
  | cons op tail =>
    obtain ⟨enough, rfl, rfl⟩ := decode_cons_ok read
    rw [decodeBytes_eq_instr]
    obtain ⟨wf, encodes⟩ := tableEntry_encodes op (tail.getD 0 0)
      (joinBytes (tail.getD 1 0) (tail.getD 0 0))
    exact ⟨wf, encodes ▸ Entry.bytes_append_drop enough⟩

/-! ## Sample words and field patterns -/

/-- Settles O11: the cell of each first byte, with the operand written out. -/
theorem decodeOfSampleWords : Obligations.DecodeOfSampleWords :=
  ⟨decode_imm16 rfl, decode_implied rfl, decode_imm8 rfl, decode_implied rfl, decode_imm16 rfl,
    decode_imm8 rfl, decode_implied rfl, decode_absent rfl, decode_cbPrefix rfl, decode_candidate rfl⟩

/-- Settles O10: each field has finitely many values, and at each of them the cell of the opcode byte is
the one of the pattern, whatever the operand bytes. -/
theorem opcodeFieldPatterns : Obligations.OpcodeFieldPatterns := by
  intro b1 b2
  refine ⟨?ldRegReg, ?ldRegMem, ?ldMemReg, ?aluReg, ?aluMem, ?aluImm, ?incReg, ?decReg, ?ldRegImm,
    rfl, rfl, rfl, ?ldPairImm, ?incReg16, ?decReg16, ?addHl, ?jrCond, ?retCond, ?jpCond, ?callCond,
    ?rst⟩
  case ldRegReg => intro d r; cases d <;> cases r <;> rfl
  case aluReg => intro op r; cases op <;> cases r <;> rfl
  case ldRegMem | ldMemReg | incReg | decReg | ldRegImm => intro r; cases r <;> rfl
  case aluMem | aluImm => intro op; cases op <;> rfl
  case ldPairImm | incReg16 | decReg16 | addHl => intro p; cases p <;> rfl
  case jrCond | retCond | jpCond | callCond => intro cc; cases cc <;> rfl
  case rst => intro n; fin_cases n <;> rfl

end Sys2Proof

/-! The rules about every instruction and every step: what `exec` can do to memory (R51, R65), F (R26, R28
to R30), SP (R31) and PC (R33), and the invariant that follows. -/

namespace Sys2Proof.Machine

open Claims

/-! ## Memory -/

/-- What an instruction can store from `s`: the addresses, and the memory after the stores. -/
inductive Stores (s : State) : List Word → Memory → Prop where
  | nothing : Stores s [] s.mem
  | byte (adr : Word) (v : Byte) : Stores s [adr] (s.write8 adr v).mem
  | pushed (v : Word) : Stores s [s.sp, s.sp - 1] (s.push16 v).mem
  | word (adr v : Word) : Stores s [adr, adr + 1] (s.write16 adr v).mem

section
variable {s : State}

theorem Stores.of_flag {b : Bool} {t u : State} {xs ys : List Word}
    (yes : Stores s xs t.mem) (no : Stores s ys u.mem) :
    Stores s (if b then xs else ys) (if b then t else u).mem := by
  cases b
  · exact no
  · exact yes

theorem Stores.of_not_flag {b : Bool} {t u : State} {xs ys : List Word}
    (yes : Stores s xs t.mem) (no : Stores s ys u.mem) :
    Stores s (if b then ys else xs) (if !b then t else u).mem := by
  cases b
  · exact yes
  · exact no

theorem Stores.keeps_wf {stored : List Word} {m : Memory} (stores : Stores s stored m)
    (wf : s.mem.wf = true) : m.wf = true := by
  cases stores with
  | nothing => exact wf
  | byte adr v => exact write8_wf wf adr v
  | pushed v => exact push16_wf wf v
  | word adr v => exact write16_wf wf adr v

theorem Stores.memKept {stored : List Word} {t : State} (stores : Stores s stored t.mem) :
    MemKept s t stored := by
  have reads {u : State} (same : t.mem = u.mem) (q : Word) : t.read8 q = u.read8 q :=
    congrArg (Memory.read · q.toNat) same
  generalize after : t.mem = m at stores
  cases stores with
  | nothing => exact memKept_of_mem_eq after []
  | byte adr v =>
    exact memKept_singleton.2 fun q ne => (reads after q).trans (write8_read8_other s v ne)
  | pushed v =>
    exact memKept_pair.2 fun q ne ne' => (reads after q).trans (push16_read8_other s v ne ne')
  | word adr v =>
    exact memKept_pair.2 fun q ne ne' => (reads after q).trans (write16_read8_other s v ne ne')

/-- `storedBy` names the addresses of the store; a conditional CALL stores by the flag it tests. -/
theorem exec_stores {i : Instr} {t : State} (run : exec i s = .next t) :
    Stores s (storedBy s i) t.mem := by
  cases i with
  | call_Z_a16 | call_C_a16 => cases run; exact .of_flag (.pushed _) .nothing
  | call_NZ_a16 | call_NC_a16 => cases run; exact .of_not_flag (.pushed _) .nothing
  | jp_NZ_a16 | jp_Z_a16 | jp_NC_a16 | jp_C_a16 | jr_NZ_e8 | jr_Z_e8 | jr_NC_e8 | jr_C_e8
  | ret_NZ | ret_Z | ret_NC | ret_C | undefined => cases run; split <;> exact .nothing
  | _ => cases run; constructor

end

/-- Settles O23: the addresses of `exec_stores` are those of `storedBy`. -/
theorem onlyStoredBytesChange : Obligations.OnlyStoredBytesChange :=
  fun _ _ _ run => (exec_stores run).memKept

/-! ## The flag byte -/

/-- Two flag bytes that agree outside the bits of N and H (R30). -/
def SameZC (f f' : Byte) : Prop := ∀ k, k ≠ 6 → k ≠ 5 → f'.getLsbD k = f.getLsbD k

/-- How an instruction, run on two states that differ in F alone, can change them: alike, and it leaves
both flag bytes or writes the same flags in both. The `Bool` says whether it writes any. -/
inductive FlagEffect (s s' : State) : Bool → State → State → Prop where
  | kept {t t' : State} (f : t.f = s.f) (f' : t'.f = s'.f) (rest : { t' with f := t.f } = t) :
      FlagEffect s s' false t t'
  | written {t t' : State} (z n h c : Option Bool) (len : Word) (f : t.f = s.f) (f' : t'.f = s'.f)
      (rest : { t' with f := t.f } = t) :
      FlagEffect s s' true ((t.flags z n h c).advance len) ((t'.flags z n h c).advance len)

theorem SameZC.withOptFlag {f f' : Byte} (same : SameZC f f') (x : Flag) (v : Option Bool) :
    SameZC (withFlag? f x v) (withFlag? f' x v) := by
  cases v with
  | none => exact same
  | some v =>
    intro k notN notH
    rw [withFlag?, withFlag?, withFlag_getLsbD, withFlag_getLsbD, same k notN notH]

namespace FlagEffect

variable {s s' t t' : State} {w : Bool}

theorem f_eq_of_not_writes (effect : FlagEffect s s' false t t') : t.f = s.f := by
  cases effect with
  | kept f => exact f

theorem lowNibble (effect : FlagEffect s s' w t t') : t.f &&& 0x0F#8 = s.f &&& 0x0F#8 := by
  cases effect with
  | kept f => rw [f]
  | written z n h c len f => rw [advance_f, flags_lowNibble, f]

theorem agree (effect : FlagEffect s s' w t t') : { t' with f := t.f } = t := by
  cases effect with
  | kept _ _ rest => exact rest
  | @written u u' _ _ _ _ _ _ _ rest => rw [← rest]; rfl

theorem sameZC (effect : FlagEffect s s' w t t') (same : SameZC s.f s'.f) : SameZC t.f t'.f := by
  cases effect with
  | kept f f' => rwa [f, f']
  | written z n h c _ f f' =>
    rw [advance_f, advance_f, flags_f, flags_f, f, f']
    exact (((same.withOptFlag .Z z).withOptFlag .N n).withOptFlag .H h).withOptFlag .C c

end FlagEffect

/-- Both results are next states, with one flag effect. -/
def SameFlagEffect (s s' : State) (w : Bool) (x y : Result) : Prop :=
  ∃ t t', x = .next t ∧ y = .next t' ∧ FlagEffect s s' w t t'

section
variable {s : State} {f' : Byte} (same : SameZC s.f f')
include same

/-- A condition reads Z or C (R195), so both states choose the same branch. -/
theorem sameFlagEffect_cond (cc : Cond) {t t' u u' : State}
    (taken : FlagEffect s { s with f := f' } false t t')
    (notTaken : FlagEffect s { s with f := f' } false u u') :
    SameFlagEffect s { s with f := f' } false (.next (if s.cond cc then t else u))
      (.next (if State.cond { s with f := f' } cc then t' else u')) := by
  have z : State.flag { s with f := f' } .Z = s.flag .Z := same 7 (by decide) (by decide)
  have c : State.flag { s with f := f' } .C = s.flag .C := same 4 (by decide) (by decide)
  have decideAlike : State.cond { s with f := f' } cc = s.cond cc := by
    cases cc <;> simp only [State.cond, z, c]
  rw [decideAlike]
  split
  · exact ⟨t, t', rfl, rfl, taken⟩
  · exact ⟨u, u', rfl, rfl, notTaken⟩

/-- ADC is the one operation that computes with a flag, and the flag is C (D10). -/
theorem sameFlagEffect_adcA {src : AluSrc}
    (operand : State.aluOperand { s with f := f' } src = s.aluOperand src) :
    SameFlagEffect s { s with f := f' } true (adcA src s) (adcA src { s with f := f' }) := by
  have carry : State.flag { s with f := f' } .C = s.flag .C := same 4 (by decide) (by decide)
  unfold adcA
  rw [carry, operand]
  exact ⟨_, _, rfl, rfl, .written _ _ _ _ _ rfl rfl rfl⟩

/-- No instruction reads N or H (R30). Outside the conditional forms and ADC, an instruction is one chain
of updates that reads no flag at all, so its effect is its last flag write, if it has one. -/
theorem exec_sameFlagEffect (i : Instr) :
    SameFlagEffect s { s with f := f' } (writesFlags i) (exec i s) (exec i { s with f := f' }) := by
  cases i with
  | jp_NZ_a16 | jp_Z_a16 | jp_NC_a16 | jp_C_a16
  | jr_NZ_e8 | jr_Z_e8 | jr_NC_e8 | jr_C_e8
  | call_NZ_a16 | call_Z_a16 | call_NC_a16 | call_C_a16
  | ret_NZ | ret_Z | ret_NC | ret_C =>
    exact sameFlagEffect_cond same _ (.kept rfl rfl rfl) (.kept rfl rfl rfl)
  | adc_A_B | adc_A_C | adc_A_D | adc_A_E | adc_A_H | adc_A_L | adc_A_A | adc_A_mHL | adc_A_d8 =>
    exact sameFlagEffect_adcA same rfl
  | undefined op =>
    show SameFlagEffect _ _ _ (candidateOpcode ..) (candidateOpcode ..)
    unfold candidateOpcode
    split <;> exact ⟨_, _, rfl, rfl, .kept rfl rfl rfl⟩
  | _ => exact ⟨_, _, rfl, rfl, by constructor <;> rfl⟩

end

/-- Settles O27: the two results have one flag effect, and it keeps the agreement outside N and H. -/
theorem subtractAndHalfCarryAreNeverRead : Obligations.SubtractAndHalfCarryAreNeverRead := by
  intro i s f' same
  obtain ⟨t, t', run, run', effect⟩ := exec_sameFlagEffect same i
  exact ⟨t, t', run, run', effect.agree, effect.sameZC same⟩

/-- What one run of an instruction does to F. -/
theorem exec_flagEffect {i : Instr} {s t : State} (run : exec i s = .next t) :
    ∃ t', FlagEffect s s (writesFlags i) t t' := by
  obtain ⟨u, u', run', -, effect⟩ := exec_sameFlagEffect (s := s) (fun _ _ _ => rfl) i
  cases run.symm.trans run'
  exact ⟨u', effect⟩

/-- Settles O22: no flag write reaches the low nibble. -/
theorem lowNibbleOfFIsPreserved : Obligations.LowNibbleOfFIsPreserved := by
  intro i s t run
  obtain ⟨_, effect⟩ := exec_flagEffect run
  exact effect.lowNibble

/-- Settles O24: outside `writesFlags` the effect on F is none. -/
theorem otherInstructionsKeepF : Obligations.OtherInstructionsKeepF := by
  intro i s t writesNone run
  obtain ⟨_, effect⟩ := exec_flagEffect run
  rw [writesNone] at effect
  exact effect.f_eq_of_not_writes

/-! ## SP and PC -/

theorem ite_sp {s t u : State} {p : Prop} [Decidable p] (yes : t.sp = s.sp) (no : u.sp = s.sp) :
    (if p then t else u).sp = s.sp := by
  split
  · exact yes
  · exact no

/-- Settles O25: no update in the meaning of another instruction writes SP. -/
theorem onlySpWritersChangeSp : Obligations.OnlySpWritersChangeSp := by
  intro i s t notWriter run
  cases i with
  | ld_SP_d16 | inc_SP | dec_SP | add_SP_e8
  | call_a16 | call_NZ_a16 | call_Z_a16 | call_NC_a16 | call_C_a16
  | ret | ret_NZ | ret_Z | ret_NC | ret_C
  | rst_0x00 | rst_0x08 | rst_0x10 | rst_0x18 | rst_0x20 | rst_0x28 | rst_0x30 | rst_0x38 =>
    cases notWriter
  | jp_NZ_a16 | jp_Z_a16 | jp_NC_a16 | jp_C_a16 | jr_NZ_e8 | jr_Z_e8 | jr_NC_e8 | jr_C_e8
  | undefined => cases run; exact ite_sp rfl rfl
  | _ => cases run; rfl

/-- Settles O26: the meaning of each other instruction advances PC once, by the length of its encoding. -/
theorem pcAdvancesByLength : Obligations.PcAdvancesByLength := by
  intro i s t notTransfer implemented run
  cases i with
  | jp_a16 | jp_NZ_a16 | jp_Z_a16 | jp_NC_a16 | jp_C_a16
  | jr_e8 | jr_NZ_e8 | jr_Z_e8 | jr_NC_e8 | jr_C_e8
  | call_a16 | call_NZ_a16 | call_Z_a16 | call_NC_a16 | call_C_a16
  | ret | ret_NZ | ret_Z | ret_NC | ret_C
  | rst_0x00 | rst_0x08 | rst_0x10 | rst_0x18 | rst_0x20 | rst_0x28 | rst_0x30 | rst_0x38 =>
    cases notTransfer
  | undefined | unknown | prefixCB => cases implemented
  | _ => cases run; rfl

/-! ## The invariant -/

/-- Settles O19: the stores keep the canonical form, and no instruction reaches the low nibble of F. -/
theorem stepKeepsInvariant : Obligations.StepKeepsInvariant := by
  rintro s t ⟨wf, low⟩ next
  obtain ⟨-, run⟩ := step_next next
  exact ⟨(exec_stores run).keeps_wf wf, (lowNibbleOfFIsPreserved _ s t run).trans low⟩

/-- The low nibble of the power-on F, 0xB0, is 0. -/
theorem launch_inv {m : Memory} (canonical : m.wf = true) : (launch m).Inv :=
  ⟨canonical, show 0xB0#8 &&& 0x0F#8 = 0x00#8 by decide⟩

/-- Settles O20: reset is the launch with an empty memory. -/
theorem resetMeetsInvariant : Obligations.ResetMeetsInvariant := launch_inv (m := []) rfl

/-- An accepted `set_mem` is one store inside the array. -/
theorem setMem_eq_next {adr : Nat} {v : Byte} {s t : State} (next : setMem adr v s = .next t) :
    adr ≤ 0xFFFF ∧ t = { s with mem := Memory.write s.mem adr v } := by
  unfold setMem at next
  split at next
  · next le => cases next; exact ⟨le, rfl⟩
  · cases next

/-- Settles O21, by induction on the run: launch, steps and host writes each meet the invariant. -/
theorem reachableStatesMeetInvariant : Obligations.ReachableStatesMeetInvariant := by
  intro s reachable
  induction reachable with
  | launched m canonical => exact launch_inv canonical
  | ticked _ next ih => exact stepKeepsInvariant _ _ ih next
  | written adr v _ next ih =>
    obtain ⟨wf, low⟩ := ih
    obtain ⟨le, rfl⟩ := setMem_eq_next next
    exact ⟨write_wf wf v (Nat.lt_succ_of_le le), low⟩

end Sys2Proof.Machine


/-! The step (spec/70_reset_and_hazards.md R269): it runs the decoded instruction, every instruction
completes, and what the bytes without an implemented instruction do (spec/45_undefined_and_prefixed.md). -/

namespace Sys2Proof.Machine

open Claims

/-- Settles O12: three bytes at PC are enough to decode, and what they decode to is `fetch`. -/
theorem stepRunsTheDecodedInstruction : Obligations.StepRunsTheDecodedInstruction := by
  intro s live
  obtain ⟨rest, decoded⟩ := decode_three (s.read8 s.pc) (s.read8 (s.pc + 1)) (s.read8 (s.pc + 2))
  refine ⟨⟨_, rest, decoded⟩, fun i rest' decoded' => ?_⟩
  cases decoded.symm.trans decoded'
  exact step_live live

theorem exec_completes (i : Instr) (s : State) : ∃ t, exec i s = .next t := by
  obtain ⟨t, _, run, -⟩ := exec_sameButLatch s s.fault i
  exact ⟨t, run⟩

theorem step_completes {s : State} (live : s.fault = none) : ∃ t, step s = .next t := by
  rw [step_live live]
  exact exec_completes s.fetch s

/-- Settles O13: a live state runs the instruction it fetches, and that completes. -/
theorem everyInstructionCompletes : Obligations.EveryInstructionCompletes :=
  ⟨exec_completes, fun _ live => step_completes live⟩

theorem step_of_fetch {s : State} {i : Instr} (live : s.fault = none) (fetched : s.fetch = i) :
    step s = exec i s := by
  rw [step_live live, fetched]

/-! ## `tick` as the host sees it -/

section
variable {s t : State} (next : step s = .next t)
include next

theorem tick_success (clear : t.fault = none) : tick s = .success t := by
  simp only [tick, next, clear]

theorem tick_error {r : FaultRecord} (latched : t.fault = some r) : tick s = .error r t := by
  simp only [tick, next, latched]

end

/-- Settles O18: the latch after the step is the answer, and a step that sets it changes nothing else
(`faultIsPrecise`). -/
theorem tickResults : Obligations.TickResults := by
  intro s
  refine ⟨fun live => ?_, fun r latched => by simp only [tick, step_latched latched]⟩
  obtain ⟨t, next⟩ := step_completes live
  cases latch : t.fault with
  | none => exact .inl ⟨t, tick_success next latch, latch, next⟩
  | some r =>
    obtain ⟨onlyLatch, -⟩ := faultIsPrecise s t r next latch
    exact .inr ⟨r, onlyLatch ▸ tick_error next latch⟩

/-! ## The end of a program -/

/-- JR 0xFE goes back over its own two bytes. -/
theorem jrTarget_self (s : State) : jrTarget s 0xFE = s.pc := by
  have back : (2 : Word) + sext16 0xFE = 0#16 := by decide
  rw [jrTarget, BitVec.add_assoc, back, BitVec.add_zero]

/-- Settles O29: both forms jump to PC. -/
theorem finishedStateIsFixed : Obligations.FinishedStateIsFixed := by
  rintro s ⟨live, jr | jp⟩
  · calc step s
      _ = .next (s.jump (jrTarget s 0xFE)) := step_of_fetch live jr
      _ = .next s := by rw [jrTarget_self]; rfl
  · exact step_of_fetch live jp

/-! ## The bytes without an implemented instruction -/

theorem candidateOpcode_tolerated {tolerates : Byte → Bool} {op : Byte} (s : State)
    (yes : tolerates op = true) : candidateOpcode tolerates op s = .next { s with pc := s.pc + 1 } := by
  rw [candidateOpcode, if_pos yes]; rfl

theorem candidateOpcode_raises {tolerates : Byte → Bool} {op : Byte} (s : State)
    (no : tolerates op = false) : candidateOpcode tolerates op s
      = .next { s with fault := some { opcode := op, addr := s.pc } } := by
  rw [candidateOpcode, no]; rfl

/-- The instruction at PC is the one of the table cell of its first byte. -/
theorem fetch_of_cell {s : State} {e : Entry} (cell : tableEntry (s.read8 s.pc) = e) :
    s.fetch = e.instr (s.read8 s.pc) (s.read8 (s.pc + 1))
      (joinBytes (s.read8 (s.pc + 2)) (s.read8 (s.pc + 1))) := by
  rw [State.fetch, decodeBytes_eq_instr, cell]

/-- A byte outside the classes of R90 holds an instruction that raises nothing: the cells of the classes
hold their own bytes only. -/
theorem raisedRecord_of_implemented {op b1 b2 : Byte} (pc : Word) (present : op ∉ absentBytes)
    (noCandidate : op ∉ Config.undefinedCandidates) (noPrefix : op ≠ 0xCB) :
    raisedRecord pc (decodeBytes op b1 b2) = none := by
  have byClass := tableEntry_raisesByClass op b1 (joinBytes b2 b1) pc
  obtain ⟨wf, -⟩ := tableEntry_encodes op b1 (joinBytes b2 b1)
  rw [decodeBytes_eq_instr]
  generalize tableEntry op = entry at byClass wf
  cases entry with
  | implied | imm8 | imm16 => exact Option.isNone_iff_eq_none.1 byClass
  | absent => exact absurd (of_decide_eq_true wf) present
  | candidate => exact absurd (of_decide_eq_true wf) noCandidate
  | cbPrefix => exact absurd (of_decide_eq_true byClass) noPrefix

/-- Settles O14: each class fixes the cell of the byte at PC, and the cell the instruction. -/
theorem stepOnUnimplementedBytes : Obligations.StepOnUnimplementedBytes := by
  intro s live
  refine ⟨fun absent => ?_, fun candidate => ?_, fun cb => ?_, fun present noCandidate noPrefix => ?_⟩
  · exact step_of_fetch live (fetch_of_cell (tableEntry_absent absent))
  · have run := step_of_fetch live (fetch_of_cell (tableEntry_candidate candidate))
    exact ⟨fun yes => run.trans (candidateOpcode_tolerated s yes),
      fun no => run.trans (candidateOpcode_raises s no)⟩
  · exact step_of_fetch live (fetch_of_cell (cb ▸ tableEntry_prefix))
  · obtain ⟨t, next⟩ := step_completes live
    obtain ⟨-, run⟩ := step_next next
    obtain keeps | ⟨r, raises, -⟩ := exec_keepsLatch_or_raises run
    · exact ⟨t, next, keeps.trans live⟩
    · cases raises.symm.trans (raisedRecord_of_implemented s.pc present noCandidate noPrefix)

/-- Settles O55: only the latch is written. -/
theorem unknownOpcodeRaises : Obligations.UnknownOpcodeRaises :=
  fun op s => ⟨_, rfl, rfl, regsKept_nil.2 (raise_reg s op s.pc), memKept_of_mem_eq rfl [], rfl, rfl, rfl⟩

/-- Settles O56: 0xCB writes only the latch, a candidate byte PC or the latch. -/
theorem prefixRaisesAndCandidatesFollowTheParameter :
    Obligations.PrefixRaisesAndCandidatesFollowTheParameter := by
  refine ⟨fun b1 s => ⟨_, rfl, rfl, regsKept_nil.2 (raise_reg s b1 (s.pc + 1)),
    memKept_of_mem_eq rfl [], rfl, rfl, rfl⟩, fun op s => ?_⟩
  cases tolerated : Config.toleratesUndefined op with
  | true =>
    exact ⟨_, candidateOpcode_tolerated s tolerated, regsKept_nil.2 (advance_reg s 1),
      memKept_of_mem_eq rfl [], rfl, rfl, fun _ => ⟨rfl, rfl⟩, nofun⟩
  | false =>
    exact ⟨_, candidateOpcode_raises s tolerated, regsKept_nil.2 (raise_reg s op s.pc),
      memKept_of_mem_eq rfl [], rfl, rfl, nofun, fun _ => ⟨rfl, rfl⟩⟩

/-! ## The latch -/

theorem isUnimplemented_of_raises {pc : Word} {i : Instr} {r : FaultRecord}
    (raises : raisedRecord pc i = some r) : isUnimplemented i = true := by
  cases i with
  | unknown | undefined | prefixCB => rfl
  | _ => cases raises

theorem setMemRange_fault {i j : Nat} {data : List Byte} {s t : State}
    (next : setMemRange i j data s = .next t) : t.fault = s.fault := by
  unfold setMemRange at next
  split at next
  · split at next
    · cases next; rfl
    · cases next
  · cases next

/-- Settles O16: a step that ends latched started live, so its instruction raised the record. -/
theorem faultLatchLifecycle : Obligations.FaultLatchLifecycle := by
  refine ⟨rfl, fun _ => rfl, fun s t adr v next => ?_, fun _ _ _ _ _ next => setMemRange_fault next,
    fun _ _ latched => step_latched latched, fun s t next latched => ?_⟩
  · obtain ⟨-, rfl⟩ := setMem_eq_next next
    rfl
  · obtain ⟨live, run⟩ := step_next next
    obtain keeps | ⟨r, raises, -⟩ := exec_keepsLatch_or_raises run
    · exact absurd (keeps.trans live) latched
    · exact isUnimplemented_of_raises raises

end Sys2Proof.Machine

/-! Reset, launch, snapshot and restore (spec/70_reset_and_hazards.md R260, R262, R265, R267). -/

namespace Sys2Proof.Machine

/-- Settles O2: every register of `new` is 0, and its memory lists no byte. -/
theorem resetIsNewThenInit : Obligations.ResetIsNewThenInit :=
  ⟨rfl, fun r => by cases r <;> rfl, rfl, rfl, rfl, fun _ => rfl, rfl⟩

/-- Settles O7: the power-on pairs are those of `init`, and 0x00 is an absent byte (D1). -/
theorem launchStateAndFirstFetch : Obligations.LaunchStateAndFirstFetch := by
  intro m
  obtain ⟨af, bc, de, hl, pc, sp, -, -⟩ := initLoadsPowerOnValues { hostNew with mem := m }
  refine ⟨af, bc, de, hl, sp, pc, fun _ => rfl, rfl, fun zero => ?_⟩
  have atPc : (launch m).read8 (launch m).pc = 0x00 := zero
  obtain ⟨absent, -⟩ := stepOnUnimplementedBytes (launch m) rfl
  have raised := absent (by rw [atPc]; decide)
  rwa [atPc] at raised

theorem applyEvents_append {events more : List Event} {s t : State}
    (accepted : applyEvents events s = .next t) :
    applyEvents (events ++ more) s = applyEvents more t := by
  induction events generalizing s with
  | nil => cases accepted; rfl
  | cons ev rest ih =>
    rw [List.cons_append, applyEvents]
    rw [applyEvents] at accepted
    cases first : applyEvent ev s with
    | next u => rw [first] at accepted; exact ih accepted
    | fault r => cases r
    | refused r => rw [first] at accepted; cases accepted

/-- Settles O6: `load_from` replaces whatever state the events led to. -/
theorem loadFromRestoresTheClone : Obligations.LoadFromRestoresTheClone :=
  fun _ _ _ accepted => applyEvents_append accepted

end Sys2Proof.Machine


/-! The remaining load and store forms (spec/40_load_store.md): the immediates (R118 to R120), LD (a16),SP
(R131) and a store onto the next instruction (R73). -/

namespace Sys2Proof.Machine

open Claims

/-! ## Writes of a 16-bit operand register -/

/-- The 8-bit registers a 16-bit operand register is a view of (R22); SP is none. -/
def regsOf : Reg16 → List Reg8
  | .BC => [.B, .C]
  | .DE => [.D, .E]
  | .HL => [.H, .L]
  | .SP => []

theorem setReg16_reg_outside (s : State) (p : Reg16) (v : Word) {r : Reg8} (outside : r ∉ regsOf p) :
    (s.setReg16 p v).reg r = s.reg r := by
  cases p with
  | BC => cases r with
    | B | C => exact absurd (by decide) outside
    | _ => rfl
  | DE => cases r with
    | D | E => exact absurd (by decide) outside
    | _ => rfl
  | HL => cases r with
    | H | L => exact absurd (by decide) outside
    | _ => rfl
  | SP => cases r <;> rfl

theorem frame_setReg16_advance (s : State) (p : Reg16) (v len : Word) :
    Frame s ((s.setReg16 p v).advance len) (regsOf p) [] := by
  refine ⟨fun r outside => ?_, memKept_of_mem_eq (setReg16_mem s p v) [], setReg16_fault s p v⟩
  rw [advance_reg, setReg16_reg_outside s p v outside]

/-- Settles O33: a form on a pair writes the pair's two registers with the halves of `b2:b1`. -/
theorem loadImmediate : Obligations.LoadImmediate := by
  refine ⟨fun r d8 s => ?_, fun b2 b1 s => ?_⟩
  · obtain ⟨t, next, loaded, regs, mem, latch, f, sp, pc⟩ := loadRegImm_spec s r d8
    have frame : Frame s t [r] [] := ⟨regsKept_singleton.2 regs, memKept_of_mem_eq mem [], latch⟩
    exact ⟨t, (exec_ldRegImm s r d8).trans next, loaded, frame, f, sp, pc⟩
  · have hi := hiByte_joinBytes b2 b1
    have lo := loByte_joinBytes b2 b1
    have frame (p : Reg16) := frame_setReg16_advance s p (joinBytes b2 b1) 3
    exact ⟨⟨_, rfl, hi, lo, frame .BC, rfl, rfl, rfl⟩, ⟨_, rfl, hi, lo, frame .DE, rfl, rfl, rfl⟩,
      ⟨_, rfl, hi, lo, frame .HL, rfl, rfl, rfl⟩, ⟨_, rfl, rfl, frame .SP, rfl, rfl⟩⟩

/-- Settles O36: one byte at HL, and the two bytes of SP by `write16`. -/
theorem storeImmediateAndStackPointer : Obligations.StoreImmediateAndStackPointer := by
  intro s
  refine ⟨fun d8 => storesByte_of_exec rfl, fun a16 => ⟨_, rfl, fun wf => ?_, ?_, rfl, rfl, rfl⟩⟩
  · exact ⟨write16_read8_low wf a16 s.sp, write16_read8_high wf a16 s.sp⟩
  · exact ⟨regsKept_nil.2 (write16_reg s a16 s.sp),
      memKept_pair.2 fun q ne ne' => write16_read8_other s s.sp ne ne', rfl⟩

theorem word_add_ne {d : Word} (ne : d ≠ 0#16) (x : Word) : x + d ≠ x := by
  simpa using ne

/-- Settles O28: the store is read back at PC, and leaves the two bytes after it. -/
theorem storeIsSeenByNextFetch : Obligations.StoreIsSeenByNextFetch := by
  intro s wf
  obtain ⟨t, next, stored, bytes, -, -, -, -, pc⟩ := storeByteAt_spec s (s.pc + 3) s.a 3
  refine ⟨t, next, pc, ?_⟩
  have operand1 : t.read8 (t.pc + 1) = s.read8 (s.pc + 4) := by
    rw [pc, bytes _ (word_add_ne (by decide) _), BitVec.add_assoc]; rfl
  have operand2 : t.read8 (t.pc + 2) = s.read8 (s.pc + 5) := by
    rw [pc, bytes _ (word_add_ne (by decide) _), BitVec.add_assoc]; rfl
  rw [State.fetch, operand1, operand2, pc, stored wf]

end Sys2Proof.Machine

/-! The remaining arithmetic, logic and rotate forms (spec/41_arithmetic.md R154 to R168,
spec/42_logic.md R180 to R191, spec/44_rotate.md R210, R211). Each is one of the shared operations of
Laws/Ops.lean. -/

namespace Sys2Proof.Machine

open Claims

/-! ## A and an operand -/

/-- Settles O38: ADC adds the carry it reads, and ADD A,(HL) is ADD with the byte at HL. -/
theorem adcAndMemoryAdd : Obligations.AdcAndMemoryAdd := by
  intro s
  refine ⟨aluGives_of_exec_eq_addA (exec_add s .atHL), fun src => ?_⟩
  obtain ⟨t, next, sum, z, n, h, c, low, regs, mem, latch, sp, pc⟩ := adcA_spec s src
  have frame : Frame s t [.A] [] := ⟨regsKept_singleton.2 regs, memKept_of_mem_eq mem [], latch⟩
  exact ⟨t, (exec_adc s src).trans next, sum, ⟨z, n, h, c, low⟩, frame, sp, pc⟩

/-- Settles O39, from `subA_spec`. -/
theorem subtractFromAccumulator : Obligations.SubtractFromAccumulator := by
  intro src s
  obtain ⟨t, next, difference, z, n, h, c, low, regs, mem, latch, sp, pc⟩ := subA_spec s src
  have frame : Frame s t [.A] [] := ⟨regsKept_singleton.2 regs, memKept_of_mem_eq mem [], latch⟩
  exact ⟨t, (exec_sub s src).trans next, difference, ⟨z, n, h, c, low⟩, frame, sp, pc⟩

/-- Settles O45, from `cpA_spec`. -/
theorem compareKeepsAccumulator : Obligations.CompareKeepsAccumulator := by
  intro src s
  obtain ⟨t, next, z, n, h, c, low, regs, mem, latch, sp, pc⟩ := cpA_spec s src
  have frame : Frame s t [] [] := ⟨regsKept_nil.2 regs, memKept_of_mem_eq mem [], latch⟩
  exact ⟨t, (exec_cp s src).trans next, ⟨z, n, h, c, low⟩, frame, sp, pc⟩

/-- An instruction that puts a bitwise result in A: R179's flags. -/
theorem aluGives_of_exec_logic {i : Instr} {s : State} {v : Byte} {h : Bool} {len : Word}
    (run : exec i s = .next (((s.setReg .A v).logicFlags v h).advance len)) :
    AluGives i s v (decide (v = 0)) false h false len := by
  obtain ⟨result, z, n, h, c, low, regs, mem, latch, sp, pc⟩ := logicResult_spec s v h len
  exact ⟨_, run, result, ⟨z, n, h, c, low⟩,
    ⟨regsKept_singleton.2 regs, memKept_of_mem_eq mem [], latch⟩, sp, pc⟩

/-- Settles O44: XOR gives 0 exactly on equal operands, OR exactly on two zeros. -/
theorem logicOperations : Obligations.LogicOperations := by
  intro src s
  have and := aluGives_of_exec_logic ((exec_and s src).trans (andA_eq s src))
  have xor := aluGives_of_exec_logic ((exec_xor s src).trans (xorA_eq s src))
  have or := aluGives_of_exec_logic ((exec_or s src).trans (orA_eq s src))
  have xorZero : decide (s.a ^^^ s.aluOperand src = 0) = decide (s.a = s.aluOperand src) :=
    decide_eq_decide.2 BitVec.xor_eq_zero_iff
  have orZero : decide (s.a ||| s.aluOperand src = 0) = decide (s.a = 0 ∧ s.aluOperand src = 0) :=
    decide_eq_decide.2 BitVec.or_eq_zero_iff
  exact ⟨and, xorZero ▸ xor, orZero ▸ or⟩

/-! ## INC and DEC -/

theorem decide_add_one_eq_zero (x : Byte) : decide (x + 1 = 0) = decide (x = 0xFF) :=
  decide_eq_decide.2 (by bv_omega)

theorem decide_nibble_carry (x : Byte) :
    decide (0x0F < x.toNat % 16 + 1) = decide (x.toNat % 16 = 15) :=
  decide_eq_decide.2 (by omega)

theorem decide_nibble_borrow (x : Byte) : decide (x.toNat % 16 < 1) = decide (x.toNat % 16 = 0) :=
  decide_eq_decide.2 Nat.lt_one_iff

/-- Settles O40, from the lemma of each operation; the flags by the value at which the step by one
carries, borrows or reaches 0. -/
theorem incrementAndDecrementByte : Obligations.IncrementAndDecrementByte := by
  intro s
  refine ⟨fun r => ?incReg, fun r => ?decReg, ?incAtHl, ?decAtHl⟩
  case incReg =>
    obtain ⟨t, next, value, z, n, h, c, low, regs, mem, latch, sp, pc⟩ := incReg8_spec s r
    have frame : Frame s t [r] [] := ⟨regsKept_singleton.2 regs, memKept_of_mem_eq mem [], latch⟩
    exact ⟨t, (exec_incReg s r).trans next, value, ⟨z.trans (decide_add_one_eq_zero _), n,
      h.trans (decide_nibble_carry _), c, low⟩, frame, sp, pc⟩
  case decReg =>
    obtain ⟨t, next, value, z, n, h, c, low, regs, mem, latch, sp, pc⟩ := decReg8_spec s r
    have frame : Frame s t [r] [] := ⟨regsKept_singleton.2 regs, memKept_of_mem_eq mem [], latch⟩
    exact ⟨t, (exec_decReg s r).trans next, value, ⟨z, n, h.trans (decide_nibble_borrow _), c, low⟩,
      frame, sp, pc⟩
  case incAtHl =>
    obtain ⟨t, next, value, bytes, z, n, h, c, low, regs, latch, sp, pc⟩ := incAtHl_spec s
    have frame : Frame s t [] [s.pair .HL] := ⟨regsKept_nil.2 regs, memKept_singleton.2 bytes, latch⟩
    exact ⟨t, next, value, ⟨z.trans (decide_add_one_eq_zero _), n, h.trans (decide_nibble_carry _),
      c, low⟩, frame, sp, pc⟩
  case decAtHl =>
    obtain ⟨t, next, value, bytes, z, n, h, c, low, regs, latch, sp, pc⟩ := decAtHl_spec s
    have frame : Frame s t [] [s.pair .HL] := ⟨regsKept_nil.2 regs, memKept_singleton.2 bytes, latch⟩
    exact ⟨t, next, value, ⟨z, n, h.trans (decide_nibble_borrow _), c, low⟩, frame, sp, pc⟩

/-- Settles O41: each form is one write of its register, of the value moved by one. -/
theorem incrementAndDecrementWord : Obligations.IncrementAndDecrementWord := by
  intro s
  have frame (p : Reg16) (v : Word) := frame_setReg16_advance s p v 1
  have value (p : Reg16) (v : Word) := setReg16_reg16 s p v
  refine ⟨?incBC, ?incDE, ?incHL, ?incSP, ?decBC, ?decDE, ?decHL, ?decSP⟩
  case incBC | decBC => exact ⟨_, rfl, value .BC _, frame .BC _, rfl, rfl, rfl⟩
  case incDE | decDE => exact ⟨_, rfl, value .DE _, frame .DE _, rfl, rfl, rfl⟩
  case incHL | decHL => exact ⟨_, rfl, value .HL _, frame .HL _, rfl, rfl, rfl⟩
  case incSP | decSP => exact ⟨_, rfl, value .SP _, frame .SP _, rfl, rfl⟩

/-- Settles O42, from `addToHl_spec`. -/
theorem Arithmetic.addToHl : Obligations.AddToHl := by
  intro p s
  obtain ⟨t, next, sum, z, n, h, c, low, regs, mem, latch, sp, pc⟩ := addToHl_spec s p
  have frame : Frame s t [.H, .L] [] := ⟨regs, memKept_of_mem_eq mem [], latch⟩
  exact ⟨t, (exec_addHl s p).trans next, sum, ⟨z, n, h, c, low⟩, frame, sp, pc⟩

/-! ## Rotates -/

/-- An instruction that puts `v` in A, clears Z, N and H and takes C from `c`. -/
theorem aluGives_of_exec_rotate {i : Instr} {s : State} {v : Byte} {c : Bool}
    (run : exec i s = .next (((s.setReg .A v).flags (some false) (some false) (some false)
      (some c)).advance 1)) : AluGives i s v false false false c 1 := by
  have flags : FlagsAre s (((s.setReg .A v).flags (some false) (some false) (some false)
      (some c)).advance 1) false false false c :=
    ⟨flags_flag_Z .., flags_flag_N .., flags_flag_H .., flags_flag_C .., flags_lowNibble ..⟩
  have regs (x : Reg8) (other : x ≠ .A) : (s.setReg .A v).reg x = s.reg x := by
    rw [setReg_reg, if_neg other]
  refine ⟨_, run, rfl, flags, ⟨regsKept_singleton.2 fun x other => ?_, memKept_of_mem_eq rfl [], rfl⟩,
    rfl, rfl⟩
  rw [advance_reg, flags_reg, regs x other]

/-- Settles O46: the two shifts of each rotate are its rotation. -/
theorem rotateAccumulator : Obligations.RotateAccumulator :=
  fun _ => ⟨aluGives_of_exec_rotate rfl, aluGives_of_exec_rotate rfl⟩

end Sys2Proof.Machine

/-! RST (spec/43_control_flow.md R204), and the stack's round trips (spec/20_memory.md R61): `pop` after
`push`, and RET after CALL. -/

namespace Sys2Proof.Machine

open Claims

/-- Settles O51: RST is a one-byte call. -/
theorem restartCallsPageZero : Obligations.RestartCallsPageZero :=
  fun ttt s => callsTo_of_exec (exec_rst s ttt)

/-- The pop of a return reads SP and memory, neither of which the jump of the call has changed. -/
theorem callTo_returnFrom_pc {s : State} (wf : s.mem.wf = true) (target len : Word) :
    (s.callTo target len).returnFrom.pc = s.pc + len := by
  calc (s.callTo target len).returnFrom.pc
    _ = ((s.push16 (s.pc + len)).jump target).pop16.1 := rfl
    _ = (s.push16 (s.pc + len)).pop16.1 := rfl
    _ = s.pc + len := push16_pop16_word wf (s.pc + len)

theorem callTo_returnFrom_sp (s : State) (target len : Word) :
    (s.callTo target len).returnFrom.sp = s.sp :=
  push16_sp_add_two s (s.pc + len)

/-- Settles O54: RET pops the word CALL pushed, whatever CALL did to PC. -/
theorem callThenReturn : Obligations.CallThenReturn :=
  fun s a16 wf => ⟨s.callTo a16 3, (s.callTo a16 3).returnFrom, rfl, rfl,
    callTo_returnFrom_pc wf a16 3, callTo_returnFrom_sp s a16 3⟩

/-! ## Pushing and popping a list -/

/-- The state after the first byte of a `push`. -/
def State.pushByte (s : State) (v : Byte) : State := { s.write8 s.sp v with sp := s.sp - 1 }

theorem push_cons (s : State) (v : Byte) (rest : List Byte) :
    s.push (v :: rest) = (s.pushByte v).push rest := rfl

/-- SP under `k + 1` bytes, counted from below the first. -/
theorem sp_sub_succ (sp : Word) (k : Nat) :
    sp - 1 - BitVec.ofNat 16 k = sp - BitVec.ofNat 16 (k + 1) := by
  rw [BitVec.sub_sub, BitVec.ofNat_add, BitVec.add_comm]; rfl

/-- Fewer than 65,536 steps down do not come round to SP again. -/
theorem sp_ne_sub_ofNat (sp : Word) {k : Nat} (pos : 0 < k) (lt : k < 65536) :
    sp ≠ sp - BitVec.ofNat 16 k := by
  have ne : BitVec.ofNat 16 k ≠ 0#16 := by
    intro zero
    have : k % 65536 = 0 := congrArg BitVec.toNat zero
    omega
  have := word_add_ne ne (sp - BitVec.ofNat 16 k)
  rwa [BitVec.sub_add_cancel] at this

theorem push_sp (s : State) (data : List Byte) :
    (s.push data).sp = s.sp - BitVec.ofNat 16 data.length := by
  induction data generalizing s with
  | nil => exact (BitVec.sub_zero s.sp).symm
  | cons v rest ih =>
    rw [push_cons, ih]
    exact sp_sub_succ s.sp rest.length

theorem push_read8_outside (s : State) {data : List Byte} {q : Word}
    (outside : ∀ k, k < data.length → q ≠ s.sp - BitVec.ofNat 16 k) :
    (s.push data).read8 q = s.read8 q := by
  induction data generalizing s with
  | nil => rfl
  | cons v rest ih =>
    have first : q ≠ s.sp := by simpa using outside 0 (Nat.succ_pos _)
    have others (k : Nat) (lt : k < rest.length) : q ≠ (s.pushByte v).sp - BitVec.ofNat 16 k := by
      have := outside (k + 1) (Nat.succ_lt_succ lt)
      rwa [← sp_sub_succ] at this
    calc ((s.pushByte v).push rest).read8 q
      _ = (s.pushByte v).read8 q := ih _ others
      _ = s.read8 q := write8_read8_other s v first

/-- The last byte popped is the one at the highest address. -/
theorem popBytes_succ (s : State) (n : Nat) :
    s.popBytes (n + 1) = s.popBytes n ++ [s.read8 (s.sp + BitVec.ofNat 16 (n + 1))] := by
  induction n generalizing s with
  | zero => rfl
  | succ n ih =>
    have address : s.sp + 1 + BitVec.ofNat 16 (n + 1) = s.sp + BitVec.ofNat 16 (n + 1 + 1) := by
      rw [BitVec.add_assoc, BitVec.ofNat_add (n + 1), BitVec.add_comm 1]; rfl
    rw [State.popBytes, ih, ← address]
    rfl

/-- The first byte pushed is the last popped: the bytes pushed after it lie below its address, since no
more than 65,536 of them do not reach it again. -/
theorem push_popBytes {s : State} {data : List Byte} (wf : s.mem.wf = true)
    (fits : data.length ≤ 65536) : (s.push data).popBytes data.length = data.reverse := by
  induction data generalizing s with
  | nil => rfl
  | cons v rest ih =>
    rw [List.length_cons] at fits
    have top : ((s.pushByte v).push rest).sp + BitVec.ofNat 16 (rest.length + 1) = s.sp := by
      rw [push_sp]
      show s.sp - 1 - BitVec.ofNat 16 rest.length + _ = s.sp
      rw [sp_sub_succ, BitVec.sub_add_cancel]
    have below (k : Nat) (lt : k < rest.length) : s.sp ≠ (s.pushByte v).sp - BitVec.ofNat 16 k := by
      show s.sp ≠ s.sp - 1 - BitVec.ofNat 16 k
      rw [sp_sub_succ]
      exact sp_ne_sub_ofNat s.sp (Nat.succ_pos k) (by omega)
    have survives : ((s.pushByte v).push rest).read8 s.sp = v :=
      (push_read8_outside _ below).trans (write8_read8_same wf s.sp v)
    rw [push_cons, List.length_cons, popBytes_succ, top, survives,
      ih (s := s.pushByte v) (write8_wf wf s.sp v) (by omega), List.reverse_cons]

/-- Settles O53, from `push_popBytes`; SP goes down and up by the length. -/
theorem popReversesPush : Obligations.PopReversesPush := by
  intro s data wf fits
  refine ⟨push_popBytes wf fits, ?_, fun q outside => push_read8_outside s outside⟩
  show (s.push data).sp + BitVec.ofNat 16 data.length = s.sp
  rw [push_sp, BitVec.sub_add_cancel]

end Sys2Proof.Machine
